-- ==== Sys2Proof/Word.lean ====
section
/-! DEFINITION. The words of the YC-400: bytes of its serial lines, ticks of the lane time base (introduction, sections
3.1 and 3.2), and the indexes of its lanes and bays. -/

namespace Sys2Proof

/-- One byte of a serial line. -/
abbrev Byte := BitVec 8

/-- A lane time stamp: the 32-bit tick count, which wraps (introduction, section 3.2). -/
abbrev Tick := BitVec 32

/-- The ticks from stamp `a` to stamp `b`, modulo 2^32 (introduction, section 3.2). -/
def Tick.since (b a : Tick) : Nat := (b - a).toNat

/-- One character on a serial line as its receiver sees it: three samples around the middle of each of the ten bit cells
(start bit, eight data bits least significant first, stop bit), cell `k` in bits `3k` to `3k+2`; a set bit is a high sample
(R5, R160). -/
abbrev Cells := BitVec 30

/-- A lane, LANE0 to LANE3. -/
abbrev LaneId := Fin 4

/-- A payout bay, BAY0 or BAY1. -/
abbrev BayId := Fin 2

end Sys2Proof
end

