-- ==== Sys2Proof/Syntax.lean ====
section
/-! DEFINITION. The commands of the YC-400: one constructor of `Instr` for each row of spec/opcode_table.json, in the
table's order. Request commands carry the fields of the request as numbers (R172 to R174 and the request's own rule);
events on an input line carry the tick on which they are taken; timer expiries carry no time (log entries 1 and 2). -/

namespace Sys2Proof

/-- The type-entry record of TYPE_WRITE (R173). -/
structure TypeEntryData where
  index : Nat
  enabled : Bool
  keg : Bool
  owner : Nat
  tag : Nat
  lengthMin : Nat
  lengthMax : Nat
  slots : Nat
  deposit : Nat
  bottleDeposit : Nat
  damagedPermille : Nat
  surplusPermille : Nat
  deriving DecidableEq, Repr

/-- The account record of ACCT_WRITE (R173); `state` is the code on the line. -/
structure AccountData where
  index : Nat
  state : Nat
  cash : Bool
  voucher : Bool
  number : Nat
  dayCap : Nat
  paidToday : Nat
  credit : Nat
  /-- pairs of type and count -/
  pairs : List (Nat × Nat)
  deriving DecidableEq, Repr

/-- One item of CONFIG_WRITE: code, index and the two-byte value as an unsigned number (chapter 11, section 11.3). -/
structure ConfigItem where
  code : Nat
  index : Nat
  value : Nat
  deriving DecidableEq, Repr

/-- The two through-beams that have a jam timer (R18). -/
inductive Beam where
  | a
  | b
  deriving DecidableEq, Repr

/-- The thirty requests of the message port (chapter 10, section 10.9) with their fields. -/
inductive Request where
  | ident
  | state
  | dayOpen (day : Nat)
  | dayClose
  | configWrite (items : List ConfigItem)
  | configRead
  | configSave
  | partReset
  | typeWrite (entry : TypeEntryData)
  | typeRead (index : Nat)
  | acctWrite (record : AccountData)
  | acctRead (index : Nat)
  | acctRange (first last : Nat)
  | acctNext
  | issue (account type count : Nat)
  | docketOpen (lane account method : Nat)
  | docketClose (lane : Nat)
  | docketCancel (lane : Nat)
  | docketRead (lane : Nat)
  | docketAdjust (lane type condition bottles : Nat) (delta : Int)
  | laneHold (lane : Nat)
  | laneRelease (lane : Nat)
  | laneTrim (lane : Nat) (steps : Int)
  | laneRead (lane : Nat)
  | settleRead (docket line : Nat)
  | orderList (list first : Nat)
  | orderCancel (order : Nat)
  | payCredit (account method amount : Nat)
  | bayPower (bay setting : Nat)
  | bayRead (bay : Nat)
  deriving DecidableEq, Repr

/-- The commands of the block, one constructor per row of the table of operations and events. -/
inductive Instr where
  /-- RESET_N: the RESET_N pin (R183). -/
  | resetN
  /-- STORE_READ_DONE: the store read after a reset ends (R177). -/
  | storeReadDone
  /-- SAVE_COMPLETE: a save ends; `good` is the outcome of its read-back (R182). -/
  | saveComplete (good : Bool)
  /-- FRAME_RECEIVED: the CHECK byte of a host frame is taken, begun at `start`, taken at `t` (R163). -/
  | frameReceived (start t : Tick) (cells : Cells)
  /-- RX_GAP_TIMEOUT (R162). -/
  | rxGapTimeout
  /-- FRAME_SENT: the last byte of the frame on TXD is sent (R166). -/
  | frameSent
  /-- IDENT (R169). -/
  | ident
  /-- STATE (R169). -/
  | state
  /-- DAY_OPEN (R178). -/
  | dayOpen (day : Nat)
  /-- DAY_CLOSE (R179). -/
  | dayClose
  /-- CONFIG_WRITE (R181). -/
  | configWrite (items : List ConfigItem)
  /-- CONFIG_READ (R180). -/
  | configRead
  /-- CONFIG_SAVE (R182). -/
  | configSave
  /-- PART_RESET (R183). -/
  | partReset
  /-- TYPE_WRITE (R26). -/
  | typeWrite (entry : TypeEntryData)
  /-- TYPE_READ (R28). -/
  | typeRead (index : Nat)
  /-- ACCT_WRITE (R100). -/
  | acctWrite (record : AccountData)
  /-- ACCT_READ (R103). -/
  | acctRead (index : Nat)
  /-- ACCT_RANGE (R104). -/
  | acctRange (first last : Nat)
  /-- ACCT_NEXT (R105). -/
  | acctNext
  /-- ISSUE (R107). -/
  | issue (account type count : Nat)
  /-- DOCKET_OPEN (R75). -/
  | docketOpen (lane account method : Nat)
  /-- DOCKET_CLOSE (R88). -/
  | docketClose (lane : Nat)
  /-- DOCKET_CANCEL (R92). -/
  | docketCancel (lane : Nat)
  /-- DOCKET_READ (R94). -/
  | docketRead (lane : Nat)
  /-- DOCKET_ADJUST (R83). -/
  | docketAdjust (lane type condition bottles : Nat) (delta : Int)
  /-- LANE_HOLD (R62). -/
  | laneHold (lane : Nat)
  /-- LANE_RELEASE (R63). -/
  | laneRelease (lane : Nat)
  /-- LANE_TRIM (R20). -/
  | laneTrim (lane : Nat) (steps : Int)
  /-- LANE_READ (R69). -/
  | laneRead (lane : Nat)
  /-- SETTLE_READ (R124). -/
  | settleRead (docket line : Nat)
  /-- ORDER_LIST (R140). -/
  | orderList (list first : Nat)
  /-- ORDER_CANCEL (R139). -/
  | orderCancel (order : Nat)
  /-- PAY_CREDIT (R138). -/
  | payCredit (account method amount : Nat)
  /-- BAY_POWER (R156). -/
  | bayPower (bay setting : Nat)
  /-- BAY_READ (R157). -/
  | bayRead (bay : Nat)
  /-- A_ON: beam A's accepted level becomes blocked at tick `t` (R9). -/
  | aOn (lane : LaneId) (t : Tick)
  /-- A_OFF (R10). -/
  | aOff (lane : LaneId) (t : Tick)
  /-- B_ON (R14). -/
  | bOn (lane : LaneId) (t : Tick)
  /-- B_OFF (R17). -/
  | bOff (lane : LaneId) (t : Tick)
  /-- NECK_EDGE (R13). -/
  | neckEdge (lane : LaneId) (t : Tick)
  /-- DAMAGE_PRESS (R4). -/
  | damagePress (lane : LaneId) (t : Tick)
  /-- TAG_BYTE: a character on TAG_RX, begun at `start`, its stop bit taken at `t` (R6). -/
  | tagByte (lane : LaneId) (start t : Tick) (cells : Cells)
  /-- TAG_ASSEMBLY_TIMEOUT (R6). -/
  | tagAssemblyTimeout (lane : LaneId)
  /-- JAM: the jam timer of one beam reaches JAM_TIME (R18). -/
  | jam (lane : LaneId) (beam : Beam)
  /-- STEP_COMPLETE (R39). -/
  | stepComplete (lane : LaneId)
  /-- HOMING_STEP_COMPLETE; `home` is the accepted level of DIV_HOME read at the completion (R41). -/
  | homingStepComplete (lane : LaneId) (home : Bool)
  /-- GATE_ARRIVAL: the gate-arrival timer of the record with this lane sequence number expires (R47). -/
  | gateArrival (lane : LaneId) (seq : Nat)
  /-- GATE_CLEAR: the gate-clear timer of the record with this lane sequence number expires (R50). -/
  | gateClear (lane : LaneId) (seq : Nat)
  /-- QUIET: the quiet timer expires (R66). -/
  | quiet (lane : LaneId)
  /-- AUTO_CLOSED: the auto-close timer expires (R67). -/
  | autoClosed (lane : LaneId)
  /-- SEAT_CHANGE: the filtered level of seat contact `contact` (0 is SEAT1_N, 1 is SEAT2_N) becomes `closed`; `kind1` and
  `kind2` say whether the kind pins read closed on that tick (R143). -/
  | seatChange (bay : BayId) (contact : Fin 2) (closed kind1 kind2 : Bool) (t : Tick)
  /-- POWERING_DONE; `ready` and `fault` are the levels of MOD_READY and MOD_FAULT at the entry to STARTING (R146). -/
  | poweringDone (bay : BayId) (ready fault : Bool)
  /-- NO_READY: the start timer expires (R146). -/
  | noReady (bay : BayId)
  /-- MOD_READY_ASSERTED (R146). -/
  | modReadyAsserted (bay : BayId) (t : Tick)
  /-- MOD_READY_RELEASED (R147). -/
  | modReadyReleased (bay : BayId) (t : Tick)
  /-- MOD_FAULT_ASSERTED (R149). -/
  | modFaultAsserted (bay : BayId) (t : Tick)
  /-- UNIT_DONE: a confirmation (R150). -/
  | unitDone (bay : BayId) (t : Tick)
  /-- UNIT_REQ_PULSE_END (R150). -/
  | unitReqPulseEnd (bay : BayId)
  /-- NEXT_UNIT_START (R150). -/
  | nextUnitStart (bay : BayId)
  /-- UNIT_TIMEOUT (R151). -/
  | unitTimeout (bay : BayId)
  /-- PRINT_SENT: the last byte of a PRINT frame is sent (R154). -/
  | printSent (bay : BayId)
  /-- BAY_FRAME_RECEIVED: the CHECK byte of a frame on BAY_RX is taken (R154). -/
  | bayFrameReceived (bay : BayId) (start t : Tick) (cells : Cells)
  /-- BAY_RX_GAP_TIMEOUT (R154). -/
  | bayRxGapTimeout (bay : BayId)
  /-- PRINT_TIMEOUT (R154). -/
  | printTimeout (bay : BayId)
  /-- DAMAGE_RELEASE (R3). -/
  | damageRelease (lane : LaneId) (t : Tick)
  /-- RX_BYTE: a character on RXD (R162). -/
  | rxByte (start t : Tick) (cells : Cells)
  /-- BAY_RX_BYTE: a character on BAY_RX (R154). -/
  | bayRxByte (bay : BayId) (start t : Tick) (cells : Cells)
  deriving DecidableEq, Repr

end Sys2Proof
end

