-- ==== Sys2Proof/Decode.lean ====
section
/-! DEFINITION. The commands of this block that bits spell: none. No row of spec/opcode_table.json gives its command a bit
pattern; a request is a frame on the host line, which Machine/Operands.lean parses and builds (log entry 34). -/

namespace Sys2Proof

/-- The command that a word spells by the table's bits: the table gives no row any bits. -/
def decodeTableWord (_nbits _w : Nat) : Option Instr := none

end Sys2Proof
end

