-- ==== Sys2Proof/Config.lean ====
section
/-! DEFINITION. What one part fixes and the manual leaves open, and the fixed parameters of the manual (introduction,
sections 2.4 and 3.1). A constant without a body is a free value: nothing can be proved about it. -/

namespace Sys2Proof.Config

/-- MAX_AMOUNT, in cents (introduction, section 3.1). -/
def maxAmount : Nat := 99999999

/-- Records a span list holds (R9). -/
def spanMax : Nat := 2
/-- Records a travel queue holds (R44). -/
def travelMax : Nat := 4
/-- Runs a docket holds (R72). -/
def runsMax : Nat := 48
/-- Containers a run holds (R77). -/
def runCountMax : Nat := 255
/-- Settlement records kept (R123). -/
def settlementsMax : Nat := 16
/-- Orders the pending list has places for (R130). -/
def pendingMax : Nat := 16
/-- Orders the history ring keeps (R130). -/
def historyMax : Nat := 8
/-- Where the two-byte counts of dockets, outstanding containers and stray units stop. -/
def wordMax : Nat := 65535
/-- Room for records in a window reply, in bytes (chapter 6, section 6.4). -/
def windowRoom : Nat := 245

/-- Lane ticks in a millisecond: a tick is 0.25 ms (introduction, section 3.2). -/
def ticksPerMs : Nat := 4
/-- Lane ticks in a second (R65). -/
def ticksPerSecond : Nat := 4000
/-- Lane ticks in a minute (R66). -/
def ticksPerMinute : Nat := 240000
/-- The DAMAGE debounce, 20 ms (R3). -/
def debounceTicks : Nat := 80
/-- The seat-contact filter, 50 ms (R143). -/
def seatTicks : Nat := 200
/-- The longest gap inside a tag report, 5 ms (R6). -/
def tagGapTicks : Nat := 20
/-- The longest gap inside a frame, 20 ms (R162). -/
def frameGapTicks : Nat := 80
/-- The module reset pulse, 200 ms (R146). -/
def poweringTicks : Nat := 800
/-- The start timer, 2 s (R146). -/
def startTicks : Nat := 8000
/-- The UNIT_REQ pulse and the least gap after it, 20 ms (R150). -/
def pulseTicks : Nat := 80
/-- The unit timer, 1000 ms (R150). -/
def unitTicks : Nat := 4000
/-- The print timer, 5 s (R154). -/
def printTicks : Nat := 20000

/-- IDENT's vendor code (R169). -/
def vendorCode : Nat := 0x0317
/-- IDENT's part code (R169). -/
def partCode : Nat := 0x0400

/-- The silicon revision less one: R169 says a number from 1 to 255 and no more. UNVERIFIED, safe (log entry 18). -/
opaque revisionLessOne : Fin 255

/-- IDENT's silicon revision, 1 to 255 (R169). -/
def siliconRevision : Nat := revisionLessOne.val + 1

/-- The format revision the part writes into a stored image (chapter 11). UNVERIFIED, safe (log entry 26). -/
opaque formatRevision : Nat

/-- The other format revisions this part reads (R177). UNVERIFIED, safe (log entry 26). -/
opaque readsOther : Nat → Bool

/-- Whether a stored image's format revision is one this part reads (R177). -/
def readsRevision (r : Nat) : Bool := r == formatRevision || readsOther r

/-- The position byte of a CONFIG_WRITE refused BUSY: no item gave that status and R181 states no value.
DESIGN CHOICE, safe: a free value of the number of items (log entry 17). -/
opaque busyPosition : Nat → Byte

/-- The levels of the pins RATE1 and RATE0 at a reset, `true` high: R160 reads them there, and no row of the table tells them.
DESIGN CHOICE, safe: a free value of the number of resets before it (log entry 38). -/
opaque ratePins : Nat → Bool × Bool

/-- The level of a lane's DIV_HOME line where no command tells it, `true` active. DESIGN CHOICE, safe: a free value of the lane,
of the number of resets before it, and of the number of free levels the line has shown since the last (log entry 45). -/
opaque divHome : LaneId → Nat → Nat → Bool

end Sys2Proof.Config
end

