-- ==== Sys2Proof/Machine/State.lean ====
section
/-! DEFINITION. Everything the manual gives the YC-400 to hold, as plain data, and the machine right after reset. Outputs
that a rule ties to another piece of state (BELT, PH0 to PH3, BAY_PWR, MOD_RST, DOCK_WAIT, TXD) are computed from it in
Machine/Outputs.lean and not stored twice (log entry 29). -/

namespace Sys2Proof.Machine

/-! ### Input lines -/

/-- An input line behind the two-of-three filter of R1. A set bit is the level that means something: blocked, pressed, at
home, closed or asserted. -/
structure Line where
  /-- the level now on the line -/
  pin : Bool
  /-- the last three samples, newest first -/
  s0 : Bool
  s1 : Bool
  s2 : Bool
  /-- the accepted level -/
  level : Bool
  deriving DecidableEq, Repr

/-- A line that has shown one level for at least three samples. -/
def Line.steady (b : Bool) : Line := ⟨b, b, b, b, b⟩

/-- The DAMAGE input: its filter and the debounce behind it (R3). -/
structure DamageInput where
  line : Line
  /-- the debounced level: pressed -/
  pressed : Bool
  /-- ticks the filtered level has differed from the debounced level -/
  held : Nat
  deriving DecidableEq, Repr

/-- A seat contact and its 50 ms filter (R143); `true` is closed. -/
structure SeatContact where
  pin : Bool
  level : Bool
  /-- ticks the sampled level has differed from the filtered level -/
  held : Nat
  deriving DecidableEq, Repr

/-- The tag-port receiver (R5, R6). -/
structure TagReceiver where
  /-- the bytes of the report being assembled, in order -/
  bytes : List Byte
  /-- the tick on which the last stop bit was taken -/
  lastStop : Tick
  /-- a framing error was the last thing seen: the receiver waits for the line to return high -/
  waitHigh : Bool
  deriving DecidableEq, Repr

/-- The receiver of a framed line, RXD or BAY_RX (R160, R162). -/
structure FrameReceiver where
  /-- `none` while hunting; while assembling, the bytes taken after SYNC, in order: LEN, then the body -/
  buffer : Option (List Byte)
  lastStop : Tick
  waitHigh : Bool
  deriving DecidableEq, Repr

/-! ### Container types and configuration -/

/-- One entry of the container type table (R23). -/
structure TypeEntry where
  enabled : Bool
  /-- family KEG (`false` is CRATE) -/
  keg : Bool
  owner : Nat
  tag : Nat
  lengthMin : Nat
  lengthMax : Nat
  slots : Nat
  deposit : Nat
  bottleDeposit : Nat
  damagedPermille : Nat
  surplusPermille : Nat
  deriving DecidableEq, Repr

/-- The default entry of R29. -/
def TypeEntry.default : TypeEntry := ⟨false, false, 0, 0, 0, 0, 0, 0, 0, 0, 0⟩

/-- The drive modes of R38. -/
inductive DriveMode where
  | single
  | double
  | half
  deriving DecidableEq, Repr

/-- The per-lane configuration fields (R180). -/
structure LaneSettings where
  enable : Bool
  dAB : Nat
  dBG : Nat
  trim : Int
  throwSteps : Nat
  /-- STEP_PERIOD in milliseconds -/
  stepPeriod : Nat
  mode : DriveMode
  deriving DecidableEq, Repr

/-- The defaults of R180 for one lane. -/
def LaneSettings.default : LaneSettings := ⟨true, 400, 800, 0, 16, 5, .double⟩

/-- The working configuration (R180). -/
structure Settings where
  lanes : Vector LaneSettings 4
  /-- QUIET_TIME in seconds -/
  quietTime : Nat
  /-- AUTO_CLOSE in minutes -/
  autoClose : Nat
  /-- JAM_TIME in seconds -/
  jamTime : Nat
  cashUnit : Nat
  highMark : Nat
  lowMark : Nat
  autopower : Vector Bool 2
  deriving DecidableEq, Repr

/-- The defaults of R180. -/
def Settings.default : Settings :=
  ⟨Vector.replicate 4 LaneSettings.default, 120, 0, 10, 500, 12, 8, Vector.replicate 2 true⟩

/-! ### Passage records and the diverter -/

/-- Why a record is unsteady (R8). -/
inductive UnsteadyReason where
  | speed
  | unsteady
  deriving DecidableEq, Repr

/-- The eight refuse reasons of chapter 2. -/
inductive RefuseReason where
  | speed
  | unsteady
  | afterClose
  | lengthMismatch
  | foreign
  | unknownType
  | untagged
  | docketFull
  deriving DecidableEq, Repr

/-- GOOD or DAMAGED (R77). -/
inductive Condition where
  | good
  | damaged
  deriving DecidableEq, Repr

/-- What counted a run's containers (R77). -/
inductive RunSource where
  | auto
  | manual
  deriving DecidableEq, Repr

/-- A run key (R77). -/
structure RunKey where
  type : Nat
  condition : Condition
  bottles : Nat
  source : RunSource
  deriving DecidableEq, Repr

/-- The side of the paddle: home is ACCEPT (R38). -/
inductive Side where
  | accept
  | refuse
  deriving DecidableEq, Repr

/-- A disposition (R30, R36). -/
inductive Disposition where
  | accept (type : Nat) (condition : Condition) (bottles : Nat)
  | refuse (reason : RefuseReason)
  deriving DecidableEq, Repr

/-- A tag: owner code and type code (R7). -/
structure Tag where
  owner : Nat
  code : Nat
  deriving DecidableEq, Repr

/-- A passage record (R8). Its gate-arrival timer is armed while `gateArrival` is set and the record is uncommitted, its
gate-clear timer while it stands in the travel queue (R44). -/
structure Passage where
  seq : Nat
  tAOn : Tick
  tAOff : Option Tick
  tBOn : Option Tick
  tBOff : Option Tick
  length : Option Nat
  speed : Option Nat
  tag : Option Tag
  necks : Nat
  damaged : Bool
  unsteady : Option UnsteadyReason
  disposition : Option Disposition
  gateArrival : Option Tick
  gateClear : Option Tick
  /-- counted at its gate arrival (chapter 3, section 3.3) -/
  committed : Bool
  /-- the plan entry the record belongs to, by the entry's name (R79) -/
  entry : Option Nat
  deriving DecidableEq, Repr

/-- A step of the paddle in progress (R39). -/
structure MotorStep where
  toward : Side
  due : Tick
  deriving DecidableEq, Repr

/-- The diverter drive of a lane (chapter 3). -/
structure Diverter where
  phaseIndex : Nat
  position : Nat
  homed : Bool
  homingCount : Nat
  step : Option MotorStep
  /-- DIV_HOME: a set level is active -/
  home : Line
  /-- free levels DIV_HOME has shown from the last reset on; the model's own (log entry 45) -/
  homeReads : Nat
  /-- the tick up to which DIV_HOME's filter has run; the model's own (log entry 45) -/
  homeTick : Tick
  deriving DecidableEq, Repr

/-! ### Dockets -/

/-- A payment method (R72). -/
inductive Method where
  | cash
  | voucher
  | account
  deriving DecidableEq, Repr

/-- How a bay pays an order (R128). -/
inductive PayMethod where
  | cash
  | voucher
  deriving DecidableEq, Repr

/-- The docket states (R74). -/
inductive DocketState where
  | opened
  | quiet
  | closing
  deriving DecidableEq, Repr

/-- The close causes (R72). -/
inductive CloseCause where
  | request
  | auto
  deriving DecidableEq, Repr

/-- A run (R77). -/
structure Run where
  key : RunKey
  count : Nat
  deriving DecidableEq, Repr

/-- A plan entry (R78). -/
structure PlanEntry where
  /-- the entry's name, the model's own (log entry 30) -/
  name : Nat
  key : RunKey
  /-- the run index of its target; absent while unmade -/
  target : Option Nat
  pending : Nat
  deriving DecidableEq, Repr

/-- A docket (R72). -/
structure Docket where
  number : Nat
  account : Nat
  method : Method
  state : DocketState
  openedDay : Nat
  closeCause : Option CloseCause
  runs : List Run
  plan : List PlanEntry
  reserved : Nat
  accepted : Nat
  refused : Nat
  misrouted : Nat
  voided : Nat
  /-- the next plan entry's name, the model's own (log entry 30) -/
  nextEntry : Nat
  deriving DecidableEq, Repr

/-! ### Lanes -/

/-- The lane states (R55). -/
inductive LaneState where
  | off
  | homing
  | running
  | held
  deriving DecidableEq, Repr

/-- The seven hold reasons (R58). -/
inductive HoldReason where
  | crowded
  | strayAtB
  | jam
  | lateDivert
  | diverterHome
  | requested
  | cancelled
  deriving DecidableEq, Repr

/-- A hold-reason set (R58). -/
structure HoldSet where
  crowded : Bool
  strayAtB : Bool
  jam : Bool
  lateDivert : Bool
  diverterHome : Bool
  requested : Bool
  cancelled : Bool
  deriving DecidableEq, Repr

/-- The empty set. -/
def HoldSet.empty : HoldSet := ⟨false, false, false, false, false, false, false⟩

/-- A lane's event flags (R175). -/
structure LaneFlags where
  commit : Bool
  refused : Bool
  misrouted : Bool
  voided : Bool
  quiet : Bool
  autoClosed : Bool
  settled : Bool
  held : Bool
  released : Bool
  damageIgnored : Bool
  tagIgnored : Bool
  docketFull : Bool
  deriving DecidableEq, Repr

/-- No flag set. -/
def LaneFlags.none : LaneFlags :=
  ⟨false, false, false, false, false, false, false, false, false, false, false, false⟩

/-- One lane: its front end, diverter drive, lane control, docket slot and notice source. -/
structure Lane where
  beamA : Line
  beamB : Line
  neck : Line
  damage : DamageInput
  tagRx : TagReceiver
  span : List Passage
  nextSeq : Nat
  diverter : Diverter
  travel : List Passage
  state : LaneState
  holds : HoldSet
  /-- the ticks on which running timers expire -/
  quietTimer : Option Tick
  autoCloseTimer : Option Tick
  jamA : Option Tick
  jamB : Option Tick
  docket : Option Docket
  flags : LaneFlags
  lastRefuse : Option RefuseReason
  voidCount : Nat
  lastSettled : Option Nat
  deriving DecidableEq, Repr

/-! ### Accounts and settlements -/

/-- An account record of a non-empty slot (R97); an EMPTY slot is `none` in the table. -/
structure Account where
  suspended : Bool
  number : Nat
  cash : Bool
  voucher : Bool
  dayCap : Nat
  paidToday : Nat
  credit : Nat
  outstanding : Vector Nat 24
  deriving DecidableEq, Repr

/-- One line of a settlement record (R122). -/
structure SettlementLine where
  type : Nat
  good : Nat
  damaged : Nat
  bottles : Nat
  matched : Nat
  surplus : Nat
  subtotal : Nat
  deriving DecidableEq, Repr

/-- The flags of a settlement record (R122). -/
structure SettlementFlags where
  saturated : Bool
  suspendedDowngrade : Bool
  methodDowngrade : Bool
  capLimited : Bool
  rounded : Bool
  creditSaturated : Bool
  deriving DecidableEq, Repr

/-- A settlement record (R122). -/
structure Settlement where
  docket : Nat
  lane : Nat
  account : Nat
  accountNumber : Nat
  requested : Method
  applied : Method
  closeCause : CloseCause
  day : Nat
  lines : List SettlementLine
  credit : Nat
  payout : Nat
  posted : Nat
  order : Option Nat
  flags : SettlementFlags
  refused : Nat
  misrouted : Nat
  voided : Nat
  deriving DecidableEq, Repr

/-! ### Payout queue -/

/-- The order states (R128). -/
inductive OrderState where
  | waiting
  | serving
  | done
  | cancelled
  deriving DecidableEq, Repr

/-- A payout order (R128). -/
structure PayOrder where
  number : Nat
  account : Nat
  docket : Option Nat
  method : PayMethod
  amount : Nat
  paid : Nat
  state : OrderState
  bay : Option BayId
  /-- day number and sequence -/
  voucher : Option (Nat × Nat)
  attempts : Nat
  deriving DecidableEq, Repr

/-- NORMAL or HIGH (R132). -/
inductive Pressure where
  | normal
  | high
  deriving DecidableEq, Repr

/-- The queue's event flags (R141). -/
structure QueueFlags where
  orderAdded : Bool
  orderDone : Bool
  orderReturned : Bool
  orderCancelled : Bool
  pressureHigh : Bool
  pressureNormal : Bool
  deriving DecidableEq, Repr

/-- No flag set. -/
def QueueFlags.none : QueueFlags := ⟨false, false, false, false, false, false⟩

/-- The payout queue (chapter 8). -/
structure PayQueue where
  /-- the pending list, oldest first -/
  orders : List PayOrder
  /-- the history ring, oldest first -/
  history : List PayOrder
  nextOrder : Nat
  commitments : Nat
  pressure : Pressure
  flags : QueueFlags
  deriving DecidableEq, Repr

/-! ### Bays -/

/-- The ten bay states (chapter 9, section 9.1). -/
inductive BayState where
  | vacant
  | misseated
  | unsupported
  | off
  | powering
  | starting
  | ready
  | serving
  | stopping
  | fault
  deriving DecidableEq, Repr

/-- A latched kind (R143). -/
inductive BayKind where
  | cash
  | voucher
  | unsupported
  deriving DecidableEq, Repr

/-- The fault causes (R149). -/
inductive FaultCause where
  | noReady
  | moduleFault
  | readyLost
  | unitTimeout
  | printTimeout
  | printFailed (code : Byte)
  deriving DecidableEq, Repr

/-- A bay's event flags (R158). -/
structure BayFlags where
  seated : Bool
  removed : Bool
  ready : Bool
  fault : Bool
  orderDone : Bool
  orderInterrupted : Bool
  strayUnit : Bool
  deriving DecidableEq, Repr

/-- No flag set. -/
def BayFlags.none : BayFlags := ⟨false, false, false, false, false, false, false⟩

/-- The print outstanding at a bay: the numbers an answer must carry (R154). -/
structure PrintJob where
  day : Nat
  sequence : Nat
  attempt : Nat
  deriving DecidableEq, Repr

/-- What a bay is doing with its module: its serving context and its output lines (chapter 9). -/
structure Service where
  /-- the number of the order served -/
  order : Option Nat
  /-- units confirmed in this service -/
  units : Nat
  /-- UNIT_REQ asserted: the tick on which the pulse ends -/
  pulse : Option Tick
  /-- the tick on which the last pulse ended -/
  pulseEnd : Option Tick
  /-- a unit is outstanding: the tick on which its unit timer expires -/
  unitTimer : Option Tick
  /-- the next unit is waiting for the pulse gap: the tick on which it begins; absent while a pulse is asserted -/
  nextUnit : Option Tick
  /-- the print outstanding -/
  print : Option PrintJob
  /-- the PRINT frame being sent on BAY_TX; empty when the line is idle -/
  printFrame : List Byte
  /-- the tick on which the print timer expires -/
  printTimer : Option Tick
  deriving DecidableEq, Repr

/-- A bay that serves nothing. -/
def Service.idle : Service := ⟨.none, 0, .none, .none, .none, .none, .none, [], .none⟩

/-- One payout bay (chapter 9). -/
structure Bay where
  seat1 : SeatContact
  seat2 : SeatContact
  kind1 : Line
  kind2 : Line
  modReady : Line
  modFault : Line
  unitDone : Line
  state : BayState
  enable : Bool
  kind : Option BayKind
  lastFault : Option FaultCause
  service : Service
  /-- POWERING ends, or in STARTING the start timer expires, on this tick (R146) -/
  powerTimer : Option Tick
  stray : Nat
  flags : BayFlags
  rx : FrameReceiver
  deriving DecidableEq, Repr

/-! ### Message port -/

/-- The eight notice sources (R168). -/
inductive Source where
  | lane (i : LaneId)
  | bay (b : BayId)
  | queue
  | part
  deriving DecidableEq, Repr

/-- A completed frame: its body and whether its sum is good (R163). -/
structure Frame where
  body : List Byte
  sumGood : Bool
  deriving DecidableEq, Repr

/-- A reply in the slot: KIND, the byte in the STATUS position and the payload after FLAGS (R165). -/
structure Reply where
  kind : Byte
  status : Byte
  payload : List Byte
  deriving DecidableEq, Repr

/-- What the transmitter is sending, as the bytes of the whole frame (R166). -/
inductive Sending where
  | idle
  | reply (bytes : List Byte)
  | notice (bytes : List Byte)
  deriving DecidableEq, Repr

/-- The account window (R104). -/
structure Window where
  last : Nat
  cursor : Nat
  /-- the window's first slot -/
  first : Nat
  deriving DecidableEq, Repr

/-- The line rates of R160. -/
inductive Rate where
  | r9600
  | r19200
  | r57600
  | r115200
  deriving DecidableEq, Repr

/-- The message port (chapter 10). -/
structure Port where
  /-- the levels of the RATE pins as the last reset read them (R160) -/
  rate1 : Bool
  rate0 : Bool
  rate : Rate
  rx : FrameReceiver
  waiting : Option Frame
  overrun : Bool
  slot : Option Reply
  sending : Sending
  attention : List Source
  window : Option Window
  /-- an accepted PART_RESET waits for the last byte of its reply (R183) -/
  resetPending : Bool
  /-- resets so far, from which the RATE pins' free levels are taken; the model's own (log entry 38) -/
  resets : Nat
  deriving DecidableEq, Repr

/-! ### Settings store and part -/

/-- The part states (R177). -/
inductive PartState where
  | starting
  | closed
  | opened
  deriving DecidableEq, Repr

/-- One image area of the store (chapter 11). -/
structure StoreArea where
  /-- its check is correct -/
  checkGood : Bool
  revision : Nat
  generation : Byte
  types : Vector TypeEntry 24
  settings : Settings
  deriving DecidableEq, Repr

/-- The two areas, the first and the second. -/
inductive AreaId where
  | first
  | second
  deriving DecidableEq, Repr

/-- A save in progress: the area being written and the image going there (R182). -/
structure Save where
  target : AreaId
  image : StoreArea
  deriving DecidableEq, Repr

/-- The PART source's event flags (R168). -/
structure PartFlags where
  started : Bool
  saveDone : Bool
  saveFailed : Bool
  deriving DecidableEq, Repr

/-- No flag set. -/
def PartFlags.none : PartFlags := ⟨false, false, false⟩

/-- The settings store and the part-wide facts (chapter 11). -/
structure PartUnit where
  state : PartState
  day : Nat
  /-- the voucher sequence's next value; absent when exhausted (R153) -/
  voucherSeq : Option Nat
  nextDocket : Nat
  /-- IDENT's store state: VALID (`false` is DEFAULTS) -/
  storeValid : Bool
  area1 : StoreArea
  area2 : StoreArea
  current : Option AreaId
  save : Option Save
  flags : PartFlags
  deriving DecidableEq, Repr

/-- The whole part, and the queue of commands that wait for it. -/
structure State where
  tick : Tick
  lanes : Vector Lane 4
  bays : Vector Bay 2
  types : Vector TypeEntry 24
  settings : Settings
  accounts : Vector (Option Account) 64
  settlements : List Settlement
  queue : PayQueue
  port : Port
  part : PartUnit
  /-- commands waiting, first in, first out; not the manual's -/
  pending : List Instr
  deriving DecidableEq, Repr

/-- Why a step faults: no command of this part does, so there is no constructor. Every row of the table has an effect in the
manual. Safe. -/
inductive Fault where
  deriving DecidableEq, Repr

/-- Why a step is refused. -/
inductive Refusal where
  /-- A row of the table without a meaning in the model, by its mnemonic: raised by `exec`'s arms alone, and by none of
  them now. Safe. -/
  | notModelled (mnemonic : String)
  deriving DecidableEq, Repr

/-- What a command answers. -/
abbrev Result := Host.Outcome State Fault Refusal

/-! ### Right after reset -/

/-- The DAMAGE input as reset leaves it, on a line at level `b` (R22). -/
def DamageInput.steady (b : Bool) : DamageInput := ⟨Line.steady b, b, 0⟩

/-- A tag receiver that is idle (R22). -/
def TagReceiver.idle : TagReceiver := ⟨[], 0, false⟩

/-- A receiver that hunts (R171, R159). -/
def FrameReceiver.hunting : FrameReceiver := ⟨.none, 0, false⟩

/-- A diverter drive after reset, DIV_HOME's filter filled with the present sample `b` on tick 0 (R54, log entry 45). -/
def Diverter.reset (b : Bool) : Diverter := ⟨0, 0, false, 0, .none, Line.steady b, 1, 0⟩

/-- A lane after reset with its input lines at the levels given (R22, R54, R71, R96). -/
def Lane.afterReset (a b neck damage home : Bool) : Lane where
  beamA := Line.steady a
  beamB := Line.steady b
  neck := Line.steady neck
  damage := DamageInput.steady damage
  tagRx := TagReceiver.idle
  span := []
  nextSeq := 0
  diverter := Diverter.reset home
  travel := []
  state := .off
  holds := HoldSet.empty
  quietTimer := .none
  autoCloseTimer := .none
  jamA := .none
  jamB := .none
  docket := .none
  flags := LaneFlags.none
  lastRefuse := .none
  voidCount := 0
  lastSettled := .none

/-- A vacant bay after reset, its lines released (R159). -/
def Bay.vacant (enable : Bool) : Bay where
  seat1 := ⟨false, false, 0⟩
  seat2 := ⟨false, false, 0⟩
  kind1 := Line.steady false
  kind2 := Line.steady false
  modReady := Line.steady false
  modFault := Line.steady false
  unitDone := Line.steady false
  state := .vacant
  enable := enable
  kind := .none
  lastFault := .none
  service := Service.idle
  powerTimer := .none
  stray := 0
  flags := BayFlags.none
  rx := FrameReceiver.hunting

/-- The payout queue after reset (R142). -/
def PayQueue.reset : PayQueue := ⟨[], [], 1, 0, .normal, QueueFlags.none⟩

/-- The message port after reset, with the RATE pins and the rate they give (R160, R171). -/
def Port.reset (rate1 rate0 : Bool) (rate : Rate) (resets : Nat) : Port :=
  ⟨rate1, rate0, rate, FrameReceiver.hunting, .none, false, .none, .idle, [], .none, false, resets⟩

/-- An area that holds no valid image. -/
def StoreArea.blank : StoreArea := ⟨false, 0, 0, Vector.replicate 24 TypeEntry.default, Settings.default⟩

/-- The machine right after reset (R22, R54, R71, R96, R111, R127, R142, R159, R171, R177). The part is STARTING. The lines
the manual states no level for stand at their quiet levels and the store holds no valid image: DESIGN CHOICE, unsafe
(log entries 21, 22 and 23); but for DIV_HOME's, whose present sample is free (log entry 45). -/
def State.reset : State where
  tick := 0
  lanes := Vector.ofFn fun i => Lane.afterReset false false false false (Config.divHome i 0 0)
  bays := Vector.replicate 2 (Bay.vacant true)
  types := Vector.replicate 24 TypeEntry.default
  settings := Settings.default
  accounts := Vector.replicate 64 .none
  settlements := []
  queue := PayQueue.reset
  port := Port.reset false false .r9600 0
  part := ⟨.starting, 0, some 1, 1, false, StoreArea.blank, StoreArea.blank, .none, .none, PartFlags.none⟩
  pending := []

end Sys2Proof.Machine
end

