-- ==== Sys2Proof/Machine/Ops.lean ====
section
/-! DEFINITION. The named operations every meaning is built from: reading and changing one lane, bay, account or docket,
moving the clock, the input filters, serial characters, byte order, and the framing of chapter 10. -/

namespace Sys2Proof.Machine

/-! ### One lane, one bay, one account -/

/-- Lane `i`. -/
def State.lane (s : State) (i : LaneId) : Lane := s.lanes[i]

/-- The state with lane `i` changed by `f`. -/
def State.modLane (i : LaneId) (f : Lane → Lane) (s : State) : State :=
  { s with lanes := s.lanes.set i (f s.lanes[i]) }

/-- The state with lane `i`'s docket, if it has one, changed by `f`. -/
def State.modDocket (i : LaneId) (f : Docket → Docket) (s : State) : State :=
  s.modLane i fun l => { l with docket := l.docket.map f }

/-- The state with lane `i`'s diverter drive changed by `f`. -/
def State.modDiverter (i : LaneId) (f : Diverter → Diverter) (s : State) : State :=
  s.modLane i fun l => { l with diverter := f l.diverter }

/-- Bay `b`. -/
def State.bay (s : State) (b : BayId) : Bay := s.bays[b]

/-- The state with bay `b` changed by `f`. -/
def State.modBay (b : BayId) (f : Bay → Bay) (s : State) : State :=
  { s with bays := s.bays.set b (f s.bays[b]) }

/-- The state with bay `b`'s serving context changed by `f`. -/
def State.modService (b : BayId) (f : Service → Service) (s : State) : State :=
  s.modBay b fun y => { y with service := f y.service }

/-- The settings of lane `i` (R180). -/
def State.laneSettings (s : State) (i : LaneId) : LaneSettings := s.settings.lanes[i]

/-- The account in slot `a`: absent for an EMPTY slot and for an index outside 0 to 63 (R97). -/
def State.account (s : State) (a : Nat) : Option Account := (s.accounts[a]?).join

/-- The state with the account in slot `a`, if there is one, changed by `f`. -/
def State.modAccount (a : Nat) (f : Account → Account) (s : State) : State :=
  { s with accounts := s.accounts.setIfInBounds a ((s.account a).map f) }

/-- The type entry at index `t`: outside 0 to 23, the default entry, which is disabled (R29). -/
def State.type (s : State) (t : Nat) : TypeEntry := (s.types[t]?).getD TypeEntry.default

/-- The state with the pending orders changed by `f`. -/
def State.modOrders (f : List PayOrder → List PayOrder) (s : State) : State :=
  { s with queue := { s.queue with orders := f s.queue.orders } }

/-- The lane a request names (R62: a lane outside 0 to 3 is refused RANGE). -/
def laneOf (n : Nat) : Option LaneId := if h : n < 4 then some ⟨n, h⟩ else none

/-- The bay a request names (R156). -/
def bayOf (n : Nat) : Option BayId := if h : n < 2 then some ⟨n, h⟩ else none

/-- The dockets that exist, by lane. -/
def State.dockets (s : State) : List Docket := s.lanes.toList.filterMap Lane.docket

/-! ### The clock -/

/-- The tick `n` ticks from now. -/
def State.after (s : State) (n : Nat) : Tick := s.tick + BitVec.ofNat 32 n

/-- The clock at tick `t`: an event on an input line is taken on the tick the command carries (log entry 2). -/
def State.at (t : Tick) (s : State) : State := { s with tick := t }

/-- Whether the clock has come to `due`: it lies less than 2^31 ticks back (introduction, section 3.2). -/
def State.reached (s : State) (due : Tick) : Bool := Tick.since s.tick due < 2 ^ 31

/-- The clock moved on to `due`, unless it has come there already: a timer that expires does so on its own tick
(log entry 2). -/
def State.reach (due : Tick) (s : State) : State := if s.reached due then s else { s with tick := due }

/-! ### Counting -/

/-- `n` more, stopping at `top`. -/
def satAdd (top n x : Nat) : Nat := min top (x + n)

/-- The next number of a counter that runs from 1 to 65535 and then returns to 1 (R73, R129). -/
def nextNumber (n : Nat) : Nat := if n < 65535 then n + 1 else 1

/-- The first number from `n` on that is not in `used`, passing over at most `fuel` of them (R73, R129). -/
def freeNumber (used : List Nat) : Nat → Nat → Nat
  | 0, n => n
  | fuel + 1, n => if n ∈ used then freeNumber used fuel (nextNumber n) else n

/-! ### Lists -/

/-- The list with its first element that `p` accepts changed by `f`. -/
def modifyFirst {α : Type} (p : α → Bool) (f : α → α) : List α → List α
  | [] => []
  | x :: xs => if p x then f x :: xs else x :: modifyFirst p f xs

/-- The list with its last element that `p` accepts changed by `f`. -/
def modifyLast {α : Type} (p : α → Bool) (f : α → α) (xs : List α) : List α := (modifyFirst p f xs.reverse).reverse

/-- A list as a queue of at most `top` places: `x` joins at the end and the oldest make room (R123, R130). -/
def pushCapped {α : Type} (top : Nat) (xs : List α) (x : α) : List α :=
  let ys := xs ++ [x]
  ys.drop (ys.length - top)

/-! ### Input filters -/

/-- Two of three. -/
def majority (a b c : Bool) : Bool := (a && b) || (a && c) || (b && c)

/-- A line on the tick of an edge to a level whose change back no command tells: the level is accepted, and the line itself
shows the other level again from the next sample on (DESIGN CHOICE, log entry 8). -/
def Line.passing (b : Bool) : Line := ⟨!b, b, b, b, b⟩

/-- One sample of a line: the accepted level follows two of the last three samples (R1). -/
def Line.sample (l : Line) : Line :=
  { l with s0 := l.pin, s1 := l.s0, s2 := l.s1, level := majority l.pin l.s0 l.s1 }

/-- One tick of the DAMAGE debounce behind its filter (R3): the debounced level follows once the filtered level has held
for 80 ticks (log entry 14). -/
def DamageInput.sample (d : DamageInput) : DamageInput :=
  let line := d.line.sample
  if line.level = d.pressed then { d with line := line, held := 0 }
  else if Config.debounceTicks ≤ d.held then ⟨line, line.level, 0⟩
  else { d with line := line, held := d.held + 1 }

/-- One sample of a seat contact: the filtered level follows once the sampled level has held for 200 ticks (R143, log
entry 14). -/
def SeatContact.sample (c : SeatContact) : SeatContact :=
  if c.pin = c.level then { c with held := 0 }
  else if Config.seatTicks ≤ c.held then ⟨c.pin, c.pin, 0⟩
  else { c with held := c.held + 1 }

/-! ### Serial characters -/

/-- The level of bit cell `k`: the majority of its three samples (R5). -/
def cellLevel (c : Cells) (k : Nat) : Bool :=
  majority (c.getLsbD (3 * k)) (c.getLsbD (3 * k + 1)) (c.getLsbD (3 * k + 2))

/-- What a receiver makes of a character. -/
inductive Character where
  /-- the start bit is not accepted: the edge is dropped -/
  | dropped
  /-- the stop bit reads low -/
  | framingError
  | byte (b : Byte)
  deriving DecidableEq, Repr

/-- Bit `k` of a character as a number. -/
def cellBit (c : Cells) (k : Nat) : Nat := if cellLevel c (k + 1) then 2 ^ k else 0

/-- Reading a character: two of three start samples low, data least significant bit first, stop bit high (R5). -/
def readCharacter (c : Cells) : Character :=
  if cellLevel c 0 then .dropped
  else if !cellLevel c 9 then .framingError
  else .byte (BitVec.ofNat 8 (cellBit c 0 + cellBit c 1 + cellBit c 2 + cellBit c 3 + cellBit c 4 + cellBit c 5
    + cellBit c 6 + cellBit c 7))

/-! ### Byte order (R172) -/

/-- The low byte of a number. -/
def byteOf (n : Nat) : Byte := BitVec.ofNat 8 n

/-- Two bytes, least significant first. -/
def le2 (n : Nat) : List Byte := [byteOf n, byteOf (n / 256)]

/-- Three bytes, least significant first. -/
def le3 (n : Nat) : List Byte := [byteOf n, byteOf (n / 256), byteOf (n / 65536)]

/-- Four bytes, least significant first. -/
def le4 (n : Nat) : List Byte := [byteOf n, byteOf (n / 256), byteOf (n / 65536), byteOf (n / 16777216)]

/-- Two's complement in one byte. -/
def signed1 (x : Int) : List Byte := [BitVec.ofInt 8 x]

/-- Two's complement in two bytes. -/
def signed2 (x : Int) : List Byte := le2 (BitVec.ofInt 16 x).toNat

/-- The number in two bytes. -/
def word2 (a b : Byte) : Nat := a.toNat + 256 * b.toNat

/-- The number in four bytes. -/
def word4 (a b c d : Byte) : Nat := a.toNat + 256 * b.toNat + 65536 * c.toNat + 16777216 * d.toNat

/-- A yes-or-no code. -/
def flagByte (b : Bool) : Byte := if b then 1 else 0

/-- The bits of a byte, bit 0 first. -/
def bitsByte (bs : List Bool) : Nat := bs.foldr (fun b n => (if b then 1 else 0) + 2 * n) 0

/-- The bytes of an item that may be absent. -/
def optBytes {α : Type} (f : α → List Byte) : Option α → List Byte
  | none => []
  | some x => f x

/-! ### Frames (R161, R162) -/

/-- SYNC. -/
def sync : Byte := 0xA7

/-- The sum modulo 256 of a list of bytes. -/
def sumBytes (bs : List Byte) : Byte := bs.foldl (· + ·) 0

/-- The frame around a body: SYNC, LEN, BODY and the CHECK that makes LEN, BODY and CHECK sum to 0 modulo 256 (R161). -/
def frameOf (body : List Byte) : List Byte :=
  let len := byteOf body.length
  sync :: len :: body ++ [-(len + sumBytes body)]

/-- What taking one character does to a framed receiver. -/
structure Received where
  rx : FrameReceiver
  /-- the frame that this character completed -/
  frame : Option Frame

/-- One byte taken by a receiver that hunts (R162). -/
def hunt (r : FrameReceiver) (b : Byte) : FrameReceiver :=
  { r with buffer := if b = sync then some [] else none }

/-- One byte taken inside a frame, `taken` being the bytes after SYNC so far (R162, R163). -/
def assemble (r : FrameReceiver) (taken : List Byte) (b : Byte) : Received :=
  match taken with
  | [] => if 1 ≤ b.toNat ∧ b.toNat ≤ 250 then ⟨{ r with buffer := some [b] }, none⟩
    else ⟨{ r with buffer := none }, none⟩
  | len :: body =>
    if body.length < len.toNat then ⟨{ r with buffer := some (len :: body ++ [b]) }, none⟩
    else ⟨{ r with buffer := none }, some ⟨body, decide (len + sumBytes body + b = 0)⟩⟩

/-- A character on a framed line, begun at `start`, taken at `t` (R160, R162): a gap of more than 20 ms inside a frame
abandons it and the byte is taken as if hunting; a framing error abandons it too. -/
def FrameReceiver.take (r : FrameReceiver) (start t : Tick) (c : Cells) : Received :=
  match readCharacter c with
  | .dropped => ⟨{ r with waitHigh := false }, none⟩
  | .framingError => ⟨⟨none, t, true⟩, none⟩
  | .byte b =>
    let late := Config.frameGapTicks < Tick.since start r.lastStop
    let r' : FrameReceiver := { r with lastStop := t, waitHigh := false }
    match r.buffer with
    | none => ⟨hunt r' b, none⟩
    | some taken => if late then ⟨hunt r' b, none⟩ else assemble r' taken b

/-- Whether the next byte a receiver takes is the CHECK byte of a frame. -/
def FrameReceiver.awaitsCheck (r : FrameReceiver) : Bool :=
  match r.buffer with
  | some (len :: body) => body.length = len.toNat
  | _ => false

/-- A gap ends a frame being assembled (R162). -/
def FrameReceiver.abandon (r : FrameReceiver) : FrameReceiver := { r with buffer := none }

/-- The last tick a byte of the frame being assembled may begin on is past (R162). -/
def FrameReceiver.gapEnds (r : FrameReceiver) : Tick := r.lastStop + BitVec.ofNat 32 (Config.frameGapTicks + 1)

end Sys2Proof.Machine
end

