-- ==== Sys2Proof/Machine/Flags.lean ====
section
/-! DEFINITION. Event flags and the attention set: setting a flag of a notice source joins the source to the set (R167). -/

namespace Sys2Proof.Machine

/-- A source joins at the end of the attention set unless it is a member (R167). -/
def joinSource (x : Source) (set : List Source) : List Source := if x ∈ set then set else set ++ [x]

/-- The source `x` has something to report. -/
def State.join (x : Source) (s : State) : State :=
  { s with port := { s.port with attention := joinSource x s.port.attention } }

/-- Lane `i` sets event flags (R70, R167). -/
def State.raiseLane (i : LaneId) (f : LaneFlags → LaneFlags) (s : State) : State :=
  (s.modLane i fun l => { l with flags := f l.flags }).join (.lane i)

/-- Bay `b` sets event flags (R158, R167). -/
def State.raiseBay (b : BayId) (f : BayFlags → BayFlags) (s : State) : State :=
  (s.modBay b fun y => { y with flags := f y.flags }).join (.bay b)

/-- The queue sets event flags (R141, R167). -/
def State.raiseQueue (f : QueueFlags → QueueFlags) (s : State) : State :=
  State.join .queue { s with queue := { s.queue with flags := f s.queue.flags } }

/-- The PART source sets event flags (R167, R168). -/
def State.raisePart (f : PartFlags → PartFlags) (s : State) : State :=
  State.join .part { s with part := { s.part with flags := f s.part.flags } }

/-- Whether a reason is in a hold-reason set (R58). -/
def HoldSet.has (h : HoldSet) : HoldReason → Bool
  | .crowded => h.crowded
  | .strayAtB => h.strayAtB
  | .jam => h.jam
  | .lateDivert => h.lateDivert
  | .diverterHome => h.diverterHome
  | .requested => h.requested
  | .cancelled => h.cancelled

/-- A hold-reason set with one more reason (R58). -/
def HoldSet.add (h : HoldSet) : HoldReason → HoldSet
  | .crowded => { h with crowded := true }
  | .strayAtB => { h with strayAtB := true }
  | .jam => { h with jam := true }
  | .lateDivert => { h with lateDivert := true }
  | .diverterHome => { h with diverterHome := true }
  | .requested => { h with requested := true }
  | .cancelled => { h with cancelled := true }

/-- Adding a reason to lane `i`'s set sets HELD when the set did not hold it (R58). -/
def State.addHold (i : LaneId) (r : HoldReason) (s : State) : State :=
  if (s.lane i).holds.has r then s
  else (s.modLane i fun l => { l with holds := l.holds.add r }).raiseLane i fun f => { f with held := true }

end Sys2Proof.Machine
end

