-- ==== Sys2Proof/Machine/Operands.lean ====
section
/-! DEFINITION. The operands of the requests: enumeration codes, the frames that carry each request and how a frame is read
back (R172, R173, chapter 10 section 10.9), and the fields of the configuration (R180). -/

namespace Sys2Proof.Machine

/-! ### Enumerations of R172 -/

def Method.ofCode : Nat → Option Method
  | 0 => some .cash
  | 1 => some .voucher
  | 2 => some .account
  | _ => none

def Method.code : Method → Nat
  | .cash => 0
  | .voucher => 1
  | .account => 2

/-- How a bay pays under a method; ACCOUNT is not paid at a bay (R128). -/
def Method.pay? : Method → Option PayMethod
  | .cash => some .cash
  | .voucher => some .voucher
  | .account => none

def PayMethod.ofCode : Nat → Option PayMethod
  | 0 => some .cash
  | 1 => some .voucher
  | _ => none

/-- The bay kind that pays a method (R135). -/
def PayMethod.kind : PayMethod → BayKind
  | .cash => .cash
  | .voucher => .voucher

def Condition.ofCode : Nat → Option Condition
  | 0 => some .good
  | 1 => some .damaged
  | _ => none

def Condition.code : Condition → Nat
  | .good => 0
  | .damaged => 1

def RunSource.code : RunSource → Nat
  | .auto => 0
  | .manual => 1

def LaneState.code : LaneState → Nat
  | .off => 0
  | .homing => 1
  | .running => 2
  | .held => 3

def DocketState.code : DocketState → Nat
  | .opened => 0
  | .quiet => 1
  | .closing => 2

/-- SETTLED in the reply to DOCKET_CLOSE. -/
def settledCode : Nat := 3

def PartState.code : PartState → Nat
  | .starting => 0
  | .closed => 1
  | .opened => 2

def Pressure.code : Pressure → Nat
  | .normal => 0
  | .high => 1

def BayState.code : BayState → Nat
  | .vacant => 0
  | .misseated => 1
  | .unsupported => 2
  | .off => 3
  | .powering => 4
  | .starting => 5
  | .ready => 6
  | .serving => 7
  | .stopping => 8
  | .fault => 9

/-- The kind code of the BAY notice (R175). -/
def BayKind.code : BayKind → Nat
  | .cash => 1
  | .voucher => 2
  | .unsupported => 3

def FaultCause.code : FaultCause → Nat
  | .noReady => 1
  | .moduleFault => 2
  | .readyLost => 3
  | .unitTimeout => 4
  | .printTimeout => 5
  | .printFailed _ => 6

def RefuseReason.code : RefuseReason → Nat
  | .speed => 0
  | .unsteady => 1
  | .afterClose => 2
  | .lengthMismatch => 3
  | .foreign => 4
  | .unknownType => 5
  | .untagged => 6
  | .docketFull => 7

def Side.code : Side → Nat
  | .accept => 0
  | .refuse => 1

def UnsteadyReason.code : UnsteadyReason → Nat
  | .speed => 0
  | .unsteady => 1

def CloseCause.code : CloseCause → Nat
  | .request => 0
  | .auto => 1

def OrderState.code : OrderState → Nat
  | .waiting => 0
  | .serving => 1
  | .done => 2
  | .cancelled => 3

def DriveMode.ofCode : Nat → Option DriveMode
  | 0 => some .single
  | 1 => some .double
  | 2 => some .half
  | _ => none

def DriveMode.code : DriveMode → Nat
  | .single => 0
  | .double => 1
  | .half => 2

def yesNo : Nat → Option Bool
  | 0 => some false
  | 1 => some true
  | _ => none

/-! ### Statuses (R165) and the reply of an owning block -/

/-- The status codes of R165. -/
inductive Status where
  | ok
  | accepted
  | ended
  | badState
  | range
  | inUse
  | busy
  | duplicate
  | overlap
  | notFound
  | short
  | suspended
  | notPermitted
  | payoutBusy
  | beamsBlocked
  | noDocket
  | hasDocket
  | docketFull
  | pendingItems
  deriving DecidableEq, Repr

def Status.code : Status → Nat
  | .ok => 0
  | .accepted => 1
  | .ended => 2
  | .badState => 3
  | .range => 4
  | .inUse => 5
  | .busy => 6
  | .duplicate => 7
  | .overlap => 8
  | .notFound => 9
  | .short => 10
  | .suspended => 11
  | .notPermitted => 12
  | .payoutBusy => 13
  | .beamsBlocked => 14
  | .noDocket => 15
  | .hasDocket => 16
  | .docketFull => 17
  | .pendingItems => 18

/-- What the owning block answers: a status and the payload after FLAGS (R165). -/
structure Answer where
  status : Status
  payload : List Byte
  deriving DecidableEq, Repr

/-- A request decided: the state after it and its answer. -/
abbrev Decided := State × Answer

/-- A refused request: nothing changes and the reply is the header alone (R165). -/
def refuse (s : State) (st : Status) : Decided := (s, ⟨st, []⟩)

/-- A request answered OK. -/
def answerOk (s : State) (payload : List Byte) : Decided := (s, ⟨.ok, payload⟩)

/-! ### Request frames (chapter 10, section 10.9) -/

/-- The KIND byte of a request. -/
def kindOf : Request → Byte
  | .ident => 0x01
  | .state => 0x02
  | .dayOpen _ => 0x03
  | .dayClose => 0x04
  | .configWrite _ => 0x05
  | .configRead => 0x06
  | .configSave => 0x07
  | .partReset => 0x08
  | .typeWrite _ => 0x10
  | .typeRead _ => 0x11
  | .acctWrite _ => 0x18
  | .acctRead _ => 0x19
  | .acctRange _ _ => 0x1A
  | .acctNext => 0x1B
  | .issue _ _ _ => 0x1C
  | .docketOpen _ _ _ => 0x20
  | .docketClose _ => 0x21
  | .docketCancel _ => 0x22
  | .docketRead _ => 0x23
  | .docketAdjust _ _ _ _ _ => 0x24
  | .laneHold _ => 0x28
  | .laneRelease _ => 0x29
  | .laneTrim _ _ => 0x2A
  | .laneRead _ => 0x2B
  | .settleRead _ _ => 0x30
  | .orderList _ _ => 0x38
  | .orderCancel _ => 0x39
  | .payCredit _ _ _ => 0x3A
  | .bayPower _ _ => 0x40
  | .bayRead _ => 0x41

/-- The type-entry record (R173). -/
def encodeTypeEntry (e : TypeEntryData) : List Byte :=
  byteOf e.index :: byteOf (bitsByte [e.enabled, e.keg]) :: byteOf e.owner :: le2 e.tag ++ le2 e.lengthMin
    ++ le2 e.lengthMax ++ byteOf e.slots :: le2 e.deposit ++ le2 e.bottleDeposit ++ le2 e.damagedPermille
    ++ le2 e.surplusPermille

/-- The pairs of an account record: type and count (R173). -/
def encodePairs (ps : List (Nat × Nat)) : List Byte := ps.flatMap fun p => byteOf p.1 :: le2 p.2

/-- The account record (R173). -/
def encodeAccount (a : AccountData) : List Byte :=
  byteOf a.index :: byteOf a.state :: byteOf (bitsByte [a.cash, a.voucher]) :: le4 a.number ++ le4 a.dayCap
    ++ le4 a.paidToday ++ le4 a.credit ++ byteOf a.pairs.length :: encodePairs a.pairs

/-- A configuration item: code, index and value (chapter 11, section 11.3). -/
def encodeItem (c : ConfigItem) : List Byte := byteOf c.code :: byteOf c.index :: le2 c.value

/-- The payload of a request (chapter 10, section 10.9). -/
def payloadOf : Request → List Byte
  | .ident | .state | .dayClose | .configRead | .configSave | .partReset | .acctNext => []
  | .dayOpen day => le2 day
  | .configWrite items => byteOf items.length :: items.flatMap encodeItem
  | .typeWrite entry => encodeTypeEntry entry
  | .typeRead index => [byteOf index]
  | .acctWrite record => encodeAccount record
  | .acctRead index => [byteOf index]
  | .acctRange first last => [byteOf first, byteOf last]
  | .issue account type count => byteOf account :: byteOf type :: le2 count
  | .docketOpen lane account method => [byteOf lane, byteOf account, byteOf method]
  | .docketClose lane => [byteOf lane]
  | .docketCancel lane => [byteOf lane]
  | .docketRead lane => [byteOf lane]
  | .docketAdjust lane type condition bottles delta =>
    byteOf lane :: byteOf type :: byteOf condition :: byteOf bottles :: signed2 delta
  | .laneHold lane => [byteOf lane]
  | .laneRelease lane => [byteOf lane]
  | .laneTrim lane steps => byteOf lane :: signed1 steps
  | .laneRead lane => [byteOf lane]
  | .settleRead docket line => le2 docket ++ [byteOf line]
  | .orderList list first => [byteOf list, byteOf first]
  | .orderCancel order => le2 order
  | .payCredit account method amount => byteOf account :: byteOf method :: le4 amount
  | .bayPower bay setting => [byteOf bay, byteOf setting]
  | .bayRead bay => [byteOf bay]

/-- The frame that carries a request, its sum good. -/
def requestFrame (r : Request) : Frame := ⟨kindOf r :: payloadOf r, true⟩

/-- A number in two bytes of two's complement. -/
def signedWord2 (a b : Byte) : Int := (BitVec.ofNat 16 (word2 a b)).toInt

/-- Reading the type-entry record (R173). -/
def decodeTypeEntry : List Byte → Option TypeEntryData
  | [i, f, o, t0, t1, a0, a1, b0, b1, sl, d0, d1, c0, c1, p0, p1, q0, q1] =>
    some ⟨i.toNat, f.getLsbD 0, f.getLsbD 1, o.toNat, word2 t0 t1, word2 a0 a1, word2 b0 b1, sl.toNat, word2 d0 d1,
      word2 c0 c1, word2 p0 p1, word2 q0 q1⟩
  | _ => none

/-- Reading the pairs of an account record. -/
def decodePairs : List Byte → Option (List (Nat × Nat))
  | [] => some []
  | t :: a :: b :: rest => (decodePairs rest).map ((t.toNat, word2 a b) :: ·)
  | _ => none

/-- Reading the account record: its length is 20 bytes and 3 for each of its pair count (chapter 10, section 10.9). -/
def decodeAccount : List Byte → Option AccountData
  | i :: st :: m :: n0 :: n1 :: n2 :: n3 :: c0 :: c1 :: c2 :: c3 :: t0 :: t1 :: t2 :: t3 :: r0 :: r1 :: r2 :: r3 :: k ::
      rest =>
    match decodePairs rest with
    | some ps =>
      if ps.length = k.toNat then
        some ⟨i.toNat, st.toNat, m.getLsbD 0, m.getLsbD 1, word4 n0 n1 n2 n3, word4 c0 c1 c2 c3, word4 t0 t1 t2 t3,
          word4 r0 r1 r2 r3, ps⟩
      else none
    | none => none
  | _ => none

/-- Reading configuration items. -/
def decodeItems : List Byte → Option (List ConfigItem)
  | [] => some []
  | c :: i :: a :: b :: rest => (decodeItems rest).map (⟨c.toNat, i.toNat, word2 a b⟩ :: ·)
  | _ => none

/-- A count of items CONFIG_WRITE may carry: 1 to 62 (chapter 11, section 11.3). -/
def itemCountGood (n : Nat) : Bool := 1 ≤ n && n ≤ 62

/-- What the dispatcher's checks of kind and length make of a frame (R164). -/
inductive Parsed where
  | unknownKind
  | badLength
  | request (r : Request)
  deriving DecidableEq, Repr

/-- The payload was of the length its kind requires, or not (R164, check 3). -/
def Parsed.ofOption : Option Request → Parsed
  | some r => .request r
  | none => .badLength

/-- Reading a payload without fields. -/
def decode0 (r : Request) : List Byte → Parsed
  | [] => .request r
  | _ => .badLength

/-- Reading a payload of one byte. -/
def decode1 (f : Nat → Request) : List Byte → Parsed
  | [a] => .request (f a.toNat)
  | _ => .badLength

/-- Reading a payload of two bytes that are two fields. -/
def decode11 (f : Nat → Nat → Request) : List Byte → Parsed
  | [a, b] => .request (f a.toNat b.toNat)
  | _ => .badLength

/-- Reading a payload of one two-byte field. -/
def decode2 (f : Nat → Request) : List Byte → Parsed
  | [a, b] => .request (f (word2 a b))
  | _ => .badLength

/-- Reading CONFIG_WRITE: an item count of 1 to 62 and that many items (chapter 11, section 11.3). -/
def decodeConfigWrite : List Byte → Parsed
  | k :: rest =>
    match decodeItems rest with
    | some items => if items.length = k.toNat ∧ itemCountGood k.toNat then .request (.configWrite items) else .badLength
    | none => .badLength
  | [] => .badLength

/-- Reading ISSUE. -/
def decodeIssue : List Byte → Parsed
  | [a, t, c0, c1] => .request (.issue a.toNat t.toNat (word2 c0 c1))
  | _ => .badLength

/-- Reading DOCKET_OPEN. -/
def decodeDocketOpen : List Byte → Parsed
  | [l, a, m] => .request (.docketOpen l.toNat a.toNat m.toNat)
  | _ => .badLength

/-- Reading DOCKET_ADJUST. -/
def decodeDocketAdjust : List Byte → Parsed
  | [l, t, c, b, d0, d1] => .request (.docketAdjust l.toNat t.toNat c.toNat b.toNat (signedWord2 d0 d1))
  | _ => .badLength

/-- Reading LANE_TRIM. -/
def decodeLaneTrim : List Byte → Parsed
  | [l, x] => .request (.laneTrim l.toNat x.toInt)
  | _ => .badLength

/-- Reading SETTLE_READ. -/
def decodeSettleRead : List Byte → Parsed
  | [n0, n1, f] => .request (.settleRead (word2 n0 n1) f.toNat)
  | _ => .badLength

/-- Reading PAY_CREDIT. -/
def decodePayCredit : List Byte → Parsed
  | [a, m, x0, x1, x2, x3] => .request (.payCredit a.toNat m.toNat (word4 x0 x1 x2 x3))
  | _ => .badLength

/-- Checks 2 and 3 of R164: the KIND is one of the thirty request kinds, and the payload has the length it requires. -/
def parseRequest (kind : Byte) (p : List Byte) : Parsed :=
  match kind.toNat with
  | 0x01 => decode0 .ident p
  | 0x02 => decode0 .state p
  | 0x03 => decode2 .dayOpen p
  | 0x04 => decode0 .dayClose p
  | 0x05 => decodeConfigWrite p
  | 0x06 => decode0 .configRead p
  | 0x07 => decode0 .configSave p
  | 0x08 => decode0 .partReset p
  | 0x10 => Parsed.ofOption ((decodeTypeEntry p).map .typeWrite)
  | 0x11 => decode1 .typeRead p
  | 0x18 => Parsed.ofOption ((decodeAccount p).map .acctWrite)
  | 0x19 => decode1 .acctRead p
  | 0x1A => decode11 .acctRange p
  | 0x1B => decode0 .acctNext p
  | 0x1C => decodeIssue p
  | 0x20 => decodeDocketOpen p
  | 0x21 => decode1 .docketClose p
  | 0x22 => decode1 .docketCancel p
  | 0x23 => decode1 .docketRead p
  | 0x24 => decodeDocketAdjust p
  | 0x28 => decode1 .laneHold p
  | 0x29 => decode1 .laneRelease p
  | 0x2A => decodeLaneTrim p
  | 0x2B => decode1 .laneRead p
  | 0x30 => decodeSettleRead p
  | 0x38 => decode11 .orderList p
  | 0x39 => decode2 .orderCancel p
  | 0x3A => decodePayCredit p
  | 0x40 => decode11 .bayPower p
  | 0x41 => decode1 .bayRead p
  | _ => .unknownKind

/-! ### Configuration fields (R180) -/

/-- One configuration field with a value in its range. -/
inductive Setting where
  | enable (lane : LaneId) (v : Bool)
  | dAB (lane : LaneId) (v : Nat)
  | dBG (lane : LaneId) (v : Nat)
  | trim (lane : LaneId) (v : Int)
  | throwSteps (lane : LaneId) (v : Nat)
  | stepPeriod (lane : LaneId) (v : Nat)
  | mode (lane : LaneId) (v : DriveMode)
  | quietTime (v : Nat)
  | autoClose (v : Nat)
  | jamTime (v : Nat)
  | cashUnit (v : Nat)
  | highMark (v : Nat)
  | lowMark (v : Nat)
  | autopower (bay : BayId) (v : Bool)
  deriving DecidableEq, Repr

/-- A value in its range. -/
def ranged (lo hi v : Nat) : Option Nat := if lo ≤ v ∧ v ≤ hi then some v else none

/-- The two-byte value of an item as two's complement. -/
def signedValue (v : Nat) : Int := (BitVec.ofNat 16 v).toInt

/-- A trim in its range. -/
def trimValue (v : Nat) : Option Int :=
  if -63 ≤ signedValue v ∧ signedValue v ≤ 63 then some (signedValue v) else none

/-- A part-wide field has index 0. -/
def partWide (index : Nat) : Option Unit := if index = 0 then some () else none

/-- The field and value an item names; absent for an unknown code, an index outside the field's range or a value outside
its range (R180, R181 step 1). -/
def settingOf (c : ConfigItem) : Option Setting :=
  match c.code with
  | 0x01 => do return .enable (← laneOf c.index) (← yesNo c.value)
  | 0x02 => do return .dAB (← laneOf c.index) (← ranged 100 2000 c.value)
  | 0x03 => do return .dBG (← laneOf c.index) (← ranged 100 4000 c.value)
  | 0x04 => do return .trim (← laneOf c.index) (← trimValue c.value)
  | 0x05 => do return .throwSteps (← laneOf c.index) (← ranged 4 64 c.value)
  | 0x06 => do return .stepPeriod (← laneOf c.index) (← ranged 2 20 c.value)
  | 0x07 => do return .mode (← laneOf c.index) (← DriveMode.ofCode c.value)
  | 0x10 => do let _ ← partWide c.index; return .quietTime (← ranged 10 600 c.value)
  | 0x11 => do let _ ← partWide c.index; return .autoClose (← ranged 0 60 c.value)
  | 0x12 => do let _ ← partWide c.index; return .jamTime (← ranged 2 60 c.value)
  | 0x13 => do let _ ← partWide c.index; return .cashUnit (← ranged 1 10000 c.value)
  | 0x14 => do let _ ← partWide c.index; return .highMark (← ranged 2 16 c.value)
  | 0x15 => do let _ ← partWide c.index; return .lowMark (← ranged 0 15 c.value)
  | 0x20 => do return .autopower (← bayOf c.index) (← yesNo c.value)
  | _ => none

/-- The settings with one lane's settings changed. -/
def Settings.modLane (i : LaneId) (f : LaneSettings → LaneSettings) (g : Settings) : Settings :=
  { g with lanes := g.lanes.set i (f g.lanes[i]) }

/-- A field written (R180). -/
def Setting.apply (x : Setting) (g : Settings) : Settings :=
  match x with
  | .enable i v => g.modLane i fun l => { l with enable := v }
  | .dAB i v => g.modLane i fun l => { l with dAB := v }
  | .dBG i v => g.modLane i fun l => { l with dBG := v }
  | .trim i v => g.modLane i fun l => { l with trim := v }
  | .throwSteps i v => g.modLane i fun l => { l with throwSteps := v }
  | .stepPeriod i v => g.modLane i fun l => { l with stepPeriod := v }
  | .mode i v => g.modLane i fun l => { l with mode := v }
  | .quietTime v => { g with quietTime := v }
  | .autoClose v => { g with autoClose := v }
  | .jamTime v => { g with jamTime := v }
  | .cashUnit v => { g with cashUnit := v }
  | .highMark v => { g with highMark := v }
  | .lowMark v => { g with lowMark := v }
  | .autopower b v => { g with autopower := g.autopower.set b v }

/-- The lane whose geometry or drive a field belongs to: a write of it needs the lane OFF (R52, R180). -/
def Setting.guardedLane : Setting → Option LaneId
  | .dAB i _ | .dBG i _ | .throwSteps i _ | .stepPeriod i _ | .mode i _ => some i
  | _ => none

/-- Whether a field is one of the two pressure marks (R132). -/
def Setting.isMark : Setting → Bool
  | .highMark _ | .lowMark _ => true
  | _ => false

/-- Two's complement of a trim in the two-byte value of an item. -/
def trimCode (v : Int) : Nat := (BitVec.ofInt 16 v).toNat

/-- One item for each lane. -/
def laneItems (code : Nat) (g : Settings) (f : LaneSettings → Nat) : List ConfigItem :=
  g.lanes.toList.zipIdx.map fun p => ⟨code, p.2, f p.1⟩

/-- All 36 items, in rising order of code and, within a code, of index (R180). -/
def Settings.items (g : Settings) : List ConfigItem :=
  laneItems 0x01 g (fun l => l.enable.toNat) ++ laneItems 0x02 g (·.dAB) ++ laneItems 0x03 g (·.dBG)
    ++ laneItems 0x04 g (fun l => trimCode l.trim) ++ laneItems 0x05 g (·.throwSteps) ++ laneItems 0x06 g (·.stepPeriod)
    ++ laneItems 0x07 g (fun l => l.mode.code)
    ++ [⟨0x10, 0, g.quietTime⟩, ⟨0x11, 0, g.autoClose⟩, ⟨0x12, 0, g.jamTime⟩, ⟨0x13, 0, g.cashUnit⟩,
      ⟨0x14, 0, g.highMark⟩, ⟨0x15, 0, g.lowMark⟩]
    ++ g.autopower.toList.zipIdx.map fun p => ⟨0x20, p.2, p.1.toNat⟩

end Sys2Proof.Machine
end

