-- ==== Sys2Proof/Machine/Layouts.lean ====
section
/-! DEFINITION. The layouts of what the part sends: the records of R173, the settlement reply of R174, the notices of R175,
the PRINT frame of R176, and the replies whose rule lists their items (R172, log entry 16). -/

namespace Sys2Proof.Machine

/-- One byte that carries a number. -/
def b1 (n : Nat) : List Byte := [byteOf n]

/-- The presence byte of R172: one bit per optional item, bit 0 first. -/
def presence (bs : List Bool) : List Byte := [byteOf (bitsByte bs)]

/-- A tick on the line (R172). -/
def tickBytes (t : Tick) : List Byte := le4 t.toNat

/-- A hold-reason set (R175). -/
def holdByte (h : HoldSet) : List Byte :=
  presence [h.crowded, h.strayAtB, h.jam, h.lateDivert, h.diverterHome, h.requested, h.cancelled]

/-! ### Records (R173) -/

/-- The run record, 4 bytes. -/
def runBytes (r : Run) : List Byte :=
  b1 r.key.type ++ b1 (r.key.condition.code + 2 * r.key.source.code) ++ b1 r.key.bottles ++ b1 r.count

/-- The type-entry record, 18 bytes. -/
def typeEntryBytes (index : Nat) (e : TypeEntry) : List Byte :=
  encodeTypeEntry ⟨index, e.enabled, e.keg, e.owner, e.tag, e.lengthMin, e.lengthMax, e.slots, e.deposit, e.bottleDeposit,
    e.damagedPermille, e.surplusPermille⟩

/-- The pairs of the types whose count is not 0, rising by type (R98). -/
def outstandingPairs (o : Vector Nat 24) : List (Nat × Nat) :=
  (o.toList.zipIdx.filter fun p => p.1 ≠ 0).map fun p => (p.2, p.1)

/-- The record of a slot on the line; an EMPTY slot's absent number is sent as 0 (R97, log entry 20). -/
def accountRecord (index : Nat) : Option Account → AccountData
  | none => ⟨index, 0, false, false, 0, 0, 0, 0, []⟩
  | some a => ⟨index, if a.suspended then 2 else 1, a.cash, a.voucher, a.number, a.dayCap, a.paidToday, a.credit,
      outstandingPairs a.outstanding⟩

/-- The account record, 20 bytes and 3 for each pair. -/
def accountBytes (index : Nat) (a : Option Account) : List Byte := encodeAccount (accountRecord index a)

/-- The order record, 13 to 19 bytes. -/
def orderBytes (o : PayOrder) : List Byte :=
  le2 o.number ++ b1 o.account
    ++ b1 (o.state.code + 4 * bitsByte [o.method = .voucher, o.bay.isSome, o.bay = some 1, o.docket.isSome,
        o.voucher.isSome])
    ++ optBytes le2 o.docket ++ le4 o.amount ++ le4 o.paid ++ optBytes (fun v => le2 v.1 ++ le2 v.2) o.voucher
    ++ b1 o.attempts

/-! ### SETTLE_READ (R174) -/

/-- A settlement line, 13 bytes. -/
def settlementLineBytes (l : SettlementLine) : List Byte :=
  le4 (l.subtotal % 134217728 + 134217728 * (l.type % 32)) ++ le2 l.good ++ le2 l.damaged ++ le3 l.bottles ++ le2 l.matched

/-- The flags of a settlement record. -/
def settlementFlagsByte (f : SettlementFlags) : List Byte :=
  presence [f.saturated, f.suspendedDowngrade, f.methodDowngrade, f.capLimited, f.rounded, f.creditSaturated]

/-- The payload of SETTLE_READ from line `first` on, at most 16 lines. -/
def settlementBytes (r : Settlement) (first : Nat) : List Byte :=
  le2 r.docket ++ b1 (r.account % 64 + 64 * r.lane) ++ le4 r.accountNumber
    ++ b1 (r.requested.code + 4 * r.applied.code + 16 * r.closeCause.code + 32 * r.order.isSome.toNat)
    ++ settlementFlagsByte r.flags ++ le2 r.day ++ le4 r.credit ++ le4 r.payout ++ le4 r.posted ++ optBytes le2 r.order
    ++ le2 r.refused ++ le2 r.misrouted ++ le2 r.voided ++ b1 r.lines.length ++ b1 first
    ++ ((r.lines.drop first).take 16).flatMap settlementLineBytes

/-! ### Replies given as lists of items (R172) -/

/-- DOCKET_READ's reply (R94, log entry 16). R172 names no size for the codes of the method, the docket state and the close cause:
they are sent in 1 byte each (DESIGN CHOICE, log entry 46). -/
def docketBytes (lane : LaneId) (d : Docket) : List Byte :=
  le2 d.number ++ b1 lane ++ b1 d.account ++ b1 d.method.code ++ b1 d.state.code ++ le2 d.openedDay
    ++ presence [d.closeCause.isSome] ++ optBytes (fun c => b1 c.code) d.closeCause
    ++ le2 d.accepted ++ le2 d.refused ++ le2 d.misrouted ++ le2 d.voided
    ++ b1 d.runs.length ++ b1 d.reserved ++ b1 (d.plan.map PlanEntry.pending).sum ++ d.runs.flatMap runBytes

/-- A record's items up to its unsteady reason, which both lists report (R69, log entry 16). R172 names no size for the lane
sequence number nor for a tag's two fields: they are sent in 2, 1 and 2 bytes (DESIGN CHOICE, log entry 44); the damaged mark and
the code of the unsteady reason, for which it names none either, in 1 byte each (DESIGN CHOICE, log entry 46). -/
def passageBytes (p : Passage) : List Byte :=
  le2 p.seq ++ tickBytes p.tAOn
    ++ presence [p.tAOff.isSome, p.tBOn.isSome, p.tBOff.isSome, p.gateArrival.isSome, p.gateClear.isSome,
        p.length.isSome, p.tag.isSome, p.unsteady.isSome]
    ++ optBytes tickBytes p.tAOff ++ optBytes tickBytes p.tBOn ++ optBytes tickBytes p.tBOff
    ++ optBytes tickBytes p.gateArrival ++ optBytes tickBytes p.gateClear
    ++ optBytes (fun n => le2 n ++ le3 (p.speed.getD 0)) p.length
    ++ optBytes (fun g => b1 g.owner ++ le2 g.code) p.tag
    ++ b1 p.necks ++ [flagByte p.damaged] ++ optBytes (fun u => b1 u.code) p.unsteady

/-- The side of a disposition (R38). -/
def Disposition.side : Disposition → Side
  | .accept _ _ _ => .accept
  | .refuse _ => .refuse

/-- The refuse reason of a disposition. -/
def Disposition.reason? : Disposition → Option RefuseReason
  | .accept _ _ _ => none
  | .refuse r => some r

/-- A travel-queue record: its disposition, refuse reason or absent, and whether it is committed (R69, log entry
16); the code of the reason and the committed mark in 1 byte each, sizes that R172 does not name (DESIGN CHOICE, log entry 46). -/
def travelBytes (p : Passage) : List Byte :=
  passageBytes p ++ optBytes (fun d => b1 d.side.code) p.disposition
    ++ presence [(p.disposition.bind Disposition.reason?).isSome]
    ++ optBytes (fun r => b1 r.code) (p.disposition.bind Disposition.reason?) ++ [flagByte p.committed]

/-- The side of the oldest uncommitted record of a travel queue: the drive's target (R45). -/
def targetOf (travel : List Passage) : Option Side :=
  (travel.find? fun p => !p.committed).bind fun p => p.disposition.map Disposition.side

/-- LANE_READ's reply (R69, log entry 16). R172 names no size for the codes of the lane and docket states nor for the yes or no
items: they are sent in 1 byte each (DESIGN CHOICE, log entry 46). -/
def laneBytes (t : Tick) (g : LaneSettings) (l : Lane) : List Byte :=
  tickBytes t ++ b1 l.state.code ++ holdByte l.holds ++ [flagByte g.enable]
    ++ presence [l.docket.isSome, l.docket.isSome, (targetOf l.travel).isSome]
    ++ optBytes (fun d => le2 d.number ++ b1 d.state.code) l.docket ++ signed1 g.trim
    ++ b1 l.diverter.position ++ [flagByte l.diverter.homed] ++ optBytes (fun x => b1 x.code) (targetOf l.travel)
    ++ [flagByte l.diverter.step.isSome]
    ++ b1 l.span.length ++ l.span.flatMap passageBytes ++ b1 l.travel.length ++ l.travel.flatMap travelBytes

/-- A fault cause with the printer's code for PRINT_FAILED alone (R157, log entry 19); the code of the cause in 1 byte (DESIGN
CHOICE, log entry 46). -/
def faultBytes : FaultCause → List Byte
  | .printFailed code => [byteOf 6, code]
  | c => b1 c.code

/-- A fault cause with the printer code of a BAY notice, 0 unless PRINT_FAILED (R175); the code of the cause in
1 byte (DESIGN CHOICE, log entry 46). -/
def faultNoticeBytes : FaultCause → List Byte
  | .printFailed code => [byteOf 6, code]
  | c => b1 c.code ++ b1 0

/-- The order a bay serves. -/
def servedOrder (orders : List PayOrder) (y : Bay) : Option PayOrder :=
  y.service.order.bind fun n => orders.find? fun o => o.number = n

/-- Order number, amount and paid (R157, R175). -/
def servingBytes (o : PayOrder) : List Byte := le2 o.number ++ le4 o.amount ++ le4 o.paid

/-- What is outstanding at a bay: a unit, or a print with its attempt number (R157). -/
def outstandingBytes (v : Service) : List Byte :=
  match v.unitTimer, v.print with
  | some _, _ => b1 0
  | none, some p => b1 1 ++ b1 p.attempt
  | none, none => []

/-- Whether a bay's units confirmed are reported: a CASH bay that is serving (R157). -/
def reportsUnits (y : Bay) : Bool := y.kind = some .cash && (y.state = .serving || y.state = .stopping)

/-- BAY_READ's reply (R157, log entry 19). R172 names no size for a seat contact nor for the stray-unit count: they are sent in 1
byte each and 2 bytes (DESIGN CHOICE, log entry 44); nor for the codes of the bay state and kind nor for the enable: they are sent
in 1 byte each (DESIGN CHOICE, log entry 46). -/
def bayBytes (orders : List PayOrder) (seq : Option Nat) (y : Bay) : List Byte :=
  b1 y.state.code ++ [flagByte y.enable]
    ++ presence [y.kind.isSome, y.lastFault.isSome, (servedOrder orders y).isSome, reportsUnits y,
        y.service.unitTimer.isSome || y.service.print.isSome]
    ++ optBytes (fun k => b1 k.code) y.kind ++ [flagByte y.seat1.level, flagByte y.seat2.level]
    ++ optBytes faultBytes y.lastFault ++ optBytes servingBytes (servedOrder orders y)
    ++ (if reportsUnits y then le4 y.service.units else []) ++ outstandingBytes y.service
    ++ le2 y.stray ++ le2 (seq.getD 0)

/-- STATE's reply (R169). R172 names no size for the codes of the part, lane and bay states and of the pressure: they are sent in
1 byte each (DESIGN CHOICE, log entry 46). -/
def stateBytes (s : State) : List Byte :=
  b1 s.part.state.code ++ le2 s.part.day ++ s.lanes.toList.flatMap (fun l => b1 l.state.code)
    ++ s.bays.toList.flatMap (fun y => b1 y.state.code) ++ b1 s.queue.orders.length ++ b1 s.queue.pressure.code

/-- IDENT's reply (R169, log entry 18). -/
def identBytes (s : State) : List Byte :=
  le2 Config.vendorCode ++ le2 Config.partCode ++ b1 Config.siliconRevision ++ b1 4 ++ b1 2 ++ [flagByte s.part.storeValid]

/-- ORDER_LIST's reply for the list of orders named (R140, R173). -/
def orderListBytes (q : PayQueue) (list : List PayOrder) (first : Nat) : List Byte :=
  b1 q.commitments ++ b1 q.pressure.code ++ b1 list.length ++ b1 first ++ ((list.drop first).take 8).flatMap orderBytes

/-- CONFIG_READ's reply (R180). -/
def configBytes (g : Settings) : List Byte := b1 36 ++ g.items.flatMap encodeItem

/-! ### Notices (R175) -/

/-- A lane's event flags as a number. -/
def laneFlagBits (f : LaneFlags) : Nat :=
  bitsByte [f.commit, f.refused, f.misrouted, f.voided, f.quiet, f.autoClosed, f.settled, f.held, f.released,
    f.damageIgnored, f.tagIgnored, f.docketFull]

/-- The docket figures of a LANE notice (R95), the code of the docket state in 1 byte (DESIGN CHOICE, log entry 46). -/
def docketNoticeBytes (d : Docket) : List Byte :=
  le2 d.number ++ b1 d.state.code ++ le2 d.accepted ++ le2 d.refused ++ b1 d.runs.length

/-- The body of a LANE notice, the codes of the lane state and of the refuse reason in 1 byte each (DESIGN CHOICE, log entry 46). -/
def laneNotice (i : LaneId) (l : Lane) : List Byte :=
  0x70 :: b1 i ++ b1 l.state.code ++ holdByte l.holds ++ le2 (laneFlagBits l.flags) ++ b1 l.voidCount
    ++ presence [l.docket.isSome, l.lastRefuse.isSome, l.lastSettled.isSome]
    ++ optBytes docketNoticeBytes l.docket ++ optBytes (fun r => b1 r.code) l.lastRefuse ++ optBytes le2 l.lastSettled

/-- The body of a BAY notice; the stray-unit count, whose size R172 does not name, in 2 bytes (DESIGN CHOICE, log entry
44); the code of the bay state and the event flags in 1 byte each (DESIGN CHOICE, log entry 46). -/
def bayNotice (b : BayId) (orders : List PayOrder) (y : Bay) : List Byte :=
  0x71 :: b1 b ++ b1 y.state.code
    ++ presence [y.flags.seated, y.flags.removed, y.flags.ready, y.flags.fault, y.flags.orderDone,
        y.flags.orderInterrupted, y.flags.strayUnit]
    ++ b1 (y.enable.toNat + 2 * (y.kind.map BayKind.code).getD 0
        + 8 * bitsByte [y.lastFault.isSome, (servedOrder orders y).isSome])
    ++ optBytes faultNoticeBytes y.lastFault ++ optBytes servingBytes (servedOrder orders y) ++ le2 y.stray

/-- The body of a QUEUE notice, the event flags, the commitment count and the code of the pressure in 1 byte each (DESIGN CHOICE, log
entry 46). -/
def queueNotice (q : PayQueue) : List Byte :=
  0x72 :: presence [q.flags.orderAdded, q.flags.orderDone, q.flags.orderReturned, q.flags.orderCancelled,
      q.flags.pressureHigh, q.flags.pressureNormal]
    ++ b1 q.orders.length ++ b1 q.commitments ++ b1 q.pressure.code

/-- The body of a PART notice, the code of the part state and the event flags in 1 byte each (DESIGN CHOICE, log entry 46). -/
def partNotice (p : PartUnit) : List Byte :=
  0x73 :: b1 p.state.code ++ presence [p.flags.started, p.flags.saveDone, p.flags.saveFailed]

/-! ### The bay line (R176) -/

/-- The body of a PRINT frame. -/
def printBody (job : PrintJob) (accountNumber : Nat) (docket : Option Nat) (amount : Nat) : List Byte :=
  0x50 :: le2 job.day ++ le2 job.sequence ++ b1 job.attempt ++ le4 accountNumber ++ presence [docket.isSome]
    ++ optBytes le2 docket ++ le4 amount

/-- An answer of the printer. -/
inductive PrinterAnswer where
  | printed (job : PrintJob)
  | failed (job : PrintJob) (code : Byte)
  deriving DecidableEq, Repr

/-- Reading a frame from BAY_RX; a frame that fails a check or carries another kind is no answer (R176). -/
def printerAnswer (f : Frame) : Option PrinterAnswer :=
  if f.sumGood then
    match f.body with
    | [k, d0, d1, s0, s1, a] => if k = 0x51 then some (.printed ⟨word2 d0 d1, word2 s0 s1, a.toNat⟩) else none
    | [k, d0, d1, s0, s1, a, code] =>
      if k = 0x52 then some (.failed ⟨word2 d0 d1, word2 s0 s1, a.toNat⟩ code) else none
    | _ => none
  else none

end Sys2Proof.Machine
end

