-- ==== Sys2Proof/Machine/Payout.lean ====
section
/-! DEFINITION. The payout queue (chapter 8): commitments and pressure, orders, the arbiter with the hand-over to a bay and
the start of a unit or a print (R147, R150, R153, R154), payment and the end of an order. -/

namespace Sys2Proof.Machine

/-! ### Commitments and pressure (R131, R132) -/

/-- The pressure after a re-evaluation against the marks (R132). -/
def Pressure.next (highMark lowMark count : Nat) : Pressure → Pressure
  | .normal => if highMark ≤ count then .high else .normal
  | .high => if count ≤ lowMark then .normal else .high

/-- The event flag of a change of pressure to `p` (R132). -/
def QueueFlags.pressure (p : Pressure) (f : QueueFlags) : QueueFlags :=
  match p with
  | .high => { f with pressureHigh := true }
  | .normal => { f with pressureNormal := true }

/-- The pressure is re-evaluated; a change sets its flag (R132). -/
def State.evaluatePressure (s : State) : State :=
  let p := s.queue.pressure.next s.settings.highMark s.settings.lowMark s.queue.commitments
  if p = s.queue.pressure then s
  else State.raiseQueue (QueueFlags.pressure p) { s with queue := { s.queue with pressure := p } }

/-- One commitment more (R131). -/
def State.addCommitment (s : State) : State :=
  State.evaluatePressure { s with queue := { s.queue with commitments := s.queue.commitments + 1 } }

/-- One commitment less (R131). -/
def State.dropCommitment (s : State) : State :=
  State.evaluatePressure { s with queue := { s.queue with commitments := s.queue.commitments - 1 } }

/-! ### Orders -/

/-- The number a new order takes: the counter's value, passing over the numbers of pending orders (R129). -/
def State.orderNumber (s : State) : Nat :=
  freeNumber (s.queue.orders.map PayOrder.number) s.queue.orders.length s.queue.nextOrder

/-- An order as it is created (R121, R138). -/
def PayOrder.new (number account : Nat) (docket : Option Nat) (method : PayMethod) (amount : Nat) : PayOrder :=
  ⟨number, account, docket, method, amount, 0, .waiting, none, none, 0⟩

/-- An order is appended to the pending list and the queue sets ORDER_ADDED (R121, R138, R141). -/
def State.appendOrder (account : Nat) (docket : Option Nat) (method : PayMethod) (amount : Nat) (s : State) : State :=
  let n := s.orderNumber
  State.raiseQueue (fun f => { f with orderAdded := true })
    { s with queue := { s.queue with
        orders := s.queue.orders ++ [PayOrder.new n account docket method amount], nextOrder := nextNumber n } }

/-- The pending order with a number. -/
def State.order (s : State) (n : Nat) : Option PayOrder := s.queue.orders.find? fun o => o.number = n

/-- The pending order with a number changed by `f`; its place in the list does not change (R130). -/
def State.modOrder (n : Nat) (f : PayOrder → PayOrder) (s : State) : State :=
  s.modOrders (modifyFirst (fun o => o.number = n) f)

/-- The pending order with a number leaves the list for the history ring as `o` (R130). -/
def State.retireOrder (n : Nat) (o : PayOrder) (s : State) : State :=
  { s with queue := { s.queue with
      orders := s.queue.orders.eraseP (fun x => x.number = n)
      history := pushCapped Config.historyMax s.queue.history o } }

/-! ### Paying (R147, R150, R153, R154) -/

/-- UNIT_REQ is asserted for one unit: pulse and unit timer start (R150). -/
def State.startUnit (b : BayId) (s : State) : State :=
  s.modService b fun v => { v with
    pulse := some (s.after Config.pulseTicks), unitTimer := some (s.after Config.unitTicks), nextUnit := none }

/-- The next unit begins when the previous pulse ended at least 20 ms before; otherwise it waits for that (R150, and log
entry 24 for the first unit of an order). -/
def State.requestUnit (b : BayId) (s : State) : State :=
  let v := (s.bay b).service
  if v.pulse.isSome then s
  else match v.pulseEnd with
    | none => s.startUnit b
    | some e =>
      if Config.pulseTicks ≤ Tick.since s.tick e then s.startUnit b
      else s.modService b fun v => { v with nextUnit := some (e + BitVec.ofNat 32 Config.pulseTicks) }

/-- The voucher sequence after a value is handed out: 65535 leaves it exhausted (R153). -/
def nextSequence (v : Nat) : Option Nat := if v < 65535 then some (v + 1) else none

/-- The account number a PRINT frame carries: the one held by the order's slot (R154). -/
def State.accountNumber (s : State) (a : Nat) : Nat := ((s.account a).map Account.number).getD 0

/-- A PRINT frame begins for an order that has voucher number `day`, `seq` and its attempt numbered (R154). -/
def State.startPrint (b : BayId) (o : PayOrder) (day seq attempt : Nat) (s : State) : State :=
  s.modService b fun v => { v with
    print := some ⟨day, seq, attempt⟩
    printFrame := frameOf (printBody ⟨day, seq, attempt⟩ (s.accountNumber o.account) o.docket (o.amount - o.paid))
    printTimer := none }

/-- The bay enters SERVING with an order, its units confirmed 0 (R135, R147). -/
def State.enterServing (b : BayId) (n : Nat) (s : State) : State :=
  s.modBay b fun y => { y with
    state := .serving
    service := { y.service with
      order := some n, units := 0, unitTimer := none, nextUnit := none, print := none, printFrame := [], printTimer := none } }

/-- Hand-over of a cash order: the bay begins to pay in units (R147, R150). -/
def State.handCash (b : BayId) (o : PayOrder) (s : State) : State :=
  ((s.modOrder o.number fun x => { x with state := .serving, bay := some b }).enterServing b o.number).requestUnit b

/-- Hand-over of a voucher order under a number it keeps (R153). -/
def State.handVoucher (b : BayId) (o : PayOrder) (number : Nat × Nat) (s : State) : State :=
  let attempt := satAdd 255 1 o.attempts
  ((s.modOrder o.number fun x => { x with
      state := .serving, bay := some b, voucher := some number, attempts := attempt }).enterServing b o.number).startPrint
    b o number.1 number.2 attempt

/-- Hand-over of a voucher order: one without a voucher number takes the day number and the next value of the sequence,
which `next` is (R153). -/
def State.handPrint (b : BayId) (o : PayOrder) (next : Nat) (s : State) : State :=
  match o.voucher with
  | some number => s.handVoucher b o number
  | none => State.handVoucher b o (s.part.day, next) { s with part := { s.part with voucherSeq := nextSequence next } }

/-- The oldest WAITING order of a bay kind (R135). -/
def State.waitingFor (s : State) (k : BayKind) : Option PayOrder :=
  s.queue.orders.find? fun o => o.state = .waiting && o.method.kind = k

/-- The arbiter offers bay `b` an order: it takes one when it is READY and one of its kind is WAITING; a VOUCHER bay takes
none while the voucher sequence is exhausted (R135). -/
def State.offer (b : BayId) (s : State) : State :=
  if (s.bay b).state = .ready then
    match (s.bay b).kind with
    | some .cash => match s.waitingFor .cash with
      | some o => s.handCash b o
      | none => s
    | some .voucher => match s.waitingFor .voucher, s.part.voucherSeq with
      | some o, some next => s.handPrint b o next
      | _, _ => s
    | _ => s
  else s

/-- The arbiter acts: BAY0's hand-over first, then BAY1's against the state BAY0's left (R135). -/
def State.arbitrate (s : State) : State := (s.offer 0).offer 1

/-! ### Completion and interruption (R136, R137) -/

/-- An order paid in full becomes DONE: it leaves the pending list for the history ring, its commitment ends, and the queue
sets ORDER_DONE (R136). -/
def State.completeOrder (o : PayOrder) (s : State) : State :=
  State.raiseQueue (fun f => { f with orderDone := true })
    (s.retireOrder o.number { o with paid := o.amount, state := .done, bay := none }).dropCommitment

/-- An interrupted order returns to WAITING in its place, and the queue sets ORDER_RETURNED (R137). -/
def State.returnOrder (n : Nat) (s : State) : State :=
  State.raiseQueue (fun f => { f with orderReturned := true })
    (s.modOrder n fun o => { o with state := .waiting, bay := none })

/-! ### Requests of the queue -/

/-- Whether an account permits a payment method (R97). -/
def Account.permits (a : Account) : PayMethod → Bool
  | .cash => a.cash
  | .voucher => a.voucher

/-- A cash amount is rounded down to a whole multiple of CASH_UNIT (R119, R138). -/
def PayMethod.round (m : PayMethod) (unit x : Nat) : Nat :=
  match m with
  | .cash => x - x % unit
  | .voucher => x

/-- What PAY_CREDIT can take: the smallest of the amount asked, the balance and the cap left (R138). -/
def creditTaken (unit : Nat) (a : Account) (m : PayMethod) (amount : Nat) : Nat :=
  m.round unit (min amount (min a.credit (a.dayCap - a.paidToday)))

/-- An accepted PAY_CREDIT (R138). -/
def State.payOut (account : Nat) (m : PayMethod) (p : Nat) (s : State) : State :=
  (((s.modAccount account fun a => { a with credit := a.credit - p, paidToday := a.paidToday + p }).appendOrder account
    none m p).addCommitment).arbitrate

/-- PAY_CREDIT (R138). -/
def decidePayCredit (account method amount : Nat) (s : State) : Decided :=
  if s.part.state ≠ .opened then refuse s .badState
  else match PayMethod.ofCode method with
    | none => refuse s .range
    | some m =>
      if ¬ account < 64 ∨ ¬ (1 ≤ amount ∧ amount ≤ Config.maxAmount) then refuse s .range
      else if s.queue.pressure = .high then refuse s .payoutBusy
      else match s.account account with
        | none => refuse s .notFound
        | some a =>
          if a.suspended then refuse s .suspended
          else if !a.permits m then refuse s .notPermitted
          else
            let p := creditTaken s.settings.cashUnit a m amount
            if p = 0 then refuse s .range
            else answerOk (s.payOut account m p) (le4 p ++ le2 s.orderNumber)

/-- An accepted ORDER_CANCEL: the unpaid amount goes back to the account and the order leaves as CANCELLED (R139). -/
def State.cancelOrder (o : PayOrder) (s : State) : State :=
  State.raiseQueue (fun f => { f with orderCancelled := true })
    (((s.modAccount o.account fun a => { a with
        credit := satAdd Config.maxAmount (o.amount - o.paid) a.credit
        paidToday := a.paidToday - (o.amount - o.paid) }).retireOrder o.number
      { o with state := .cancelled, bay := none }).dropCommitment)

/-- The credit balance of a slot; 0 for an EMPTY one (R97). -/
def State.creditOf (s : State) (a : Nat) : Nat := ((s.account a).map Account.credit).getD 0

/-- ORDER_CANCEL (R139). -/
def decideOrderCancel (n : Nat) (s : State) : Decided :=
  if n = 0 then refuse s .range
  else match s.order n with
    | some o =>
      if o.state = .waiting then
        answerOk (s.cancelOrder o) (le4 (o.amount - o.paid) ++ le4 ((s.cancelOrder o).creditOf o.account))
      else refuse s .badState
    | none =>
      if s.queue.history.any fun o => o.number = n then refuse s .badState else refuse s .notFound

/-- ORDER_LIST (R140). -/
def decideOrderList (list first : Nat) (s : State) : Decided :=
  if first > 15 then refuse s .range
  else match list with
    | 0 => answerOk s (orderListBytes s.queue s.queue.orders first)
    | 1 => answerOk s (orderListBytes s.queue s.queue.history first)
    | _ => refuse s .range

end Sys2Proof.Machine
end

