-- ==== Sys2Proof/Machine/Bays.lean ====
section
/-! DEFINITION. The payout bays (chapter 9): power sequencing, faults and removal, paying in units, printing, draining, and
the requests BAY_POWER and BAY_READ. -/

namespace Sys2Proof.Machine

/-! ### Power and state changes (R145, R146, R149, R155) -/

/-- BAY_PWR turns off on the way to state `st`: UNIT_REQ is released, the bay line abandoned, every timer cancelled, and
nothing is outstanding (R145). -/
def Bay.powerDown (st : BayState) (y : Bay) : Bay :=
  { y with state := st, service := Service.idle, powerTimer := none, rx := y.rx.abandon }

/-- The bay enters POWERING: BAY_PWR on, MOD_RST low for 200 ms (R146). -/
def State.enterPowering (b : BayId) (s : State) : State :=
  s.modBay b fun y => { y with state := .powering, powerTimer := some (s.after Config.poweringTicks) }

/-- The order a bay was serving is interrupted: the bay sets ORDER_INTERRUPTED, the order returns to WAITING and the arbiter
offers it (R137, R149). The bay has left SERVING already. BAY (ORDER_INTERRUPTED) joins the attention set before QUEUE
(ORDER_RETURNED) (DESIGN CHOICE, log entry 43). -/
def State.interrupt (b : BayId) (order : Option Nat) (s : State) : State :=
  match order with
  | none => s
  | some n => ((s.raiseBay b fun f => { f with orderInterrupted := true }).returnOrder n).arbitrate

/-- A bay records a fault cause and sets FAULT (R149, R155). -/
def State.recordFault (b : BayId) (c : FaultCause) (s : State) : State :=
  (s.modBay b fun y => { y with lastFault := some c }).raiseBay b fun f => { f with fault := true }

/-- The bay enters FAULT: power off, the cause recorded, FAULT set, the order it served interrupted (R149). -/
def State.enterFault (b : BayId) (c : FaultCause) (s : State) : State :=
  ((s.modBay b (Bay.powerDown .fault)).recordFault b c).interrupt b (s.bay b).service.order

/-- A drain ends: power off, the bay enters OFF, or POWERING when its enable is on again, and an unfinished order is
interrupted (R155). -/
def State.endDrain (b : BayId) (s : State) : State :=
  let off := s.modBay b (Bay.powerDown .off)
  (if (s.bay b).enable then off.enterPowering b else off).interrupt b (s.bay b).service.order

/-- What a failing module does: in STARTING, READY and SERVING the bay enters FAULT; in STOPPING the cause is recorded and
the drain ends (R149, R155). -/
def State.moduleFails (b : BayId) (c : FaultCause) (s : State) : State :=
  match (s.bay b).state with
  | .starting | .ready | .serving => s.enterFault b c
  | .stopping => (s.recordFault b c).endDrain b
  | _ => s

/-- The bay enters READY after powering up: READY is set and the arbiter acts (R146, R135). -/
def State.enterReady (b : BayId) (s : State) : State :=
  ((s.modBay b fun y => { y with state := .ready, powerTimer := none }).raiseBay b fun f => { f with ready := true }).arbitrate

/-- STARTING meets the levels of the module's lines: MOD_FAULT gives FAULT, also beside MOD_READY; MOD_READY gives READY
(R146). -/
def State.startingLevels (b : BayId) (s : State) : State :=
  if (s.bay b).modFault.level then s.enterFault b .moduleFault
  else if (s.bay b).modReady.level then s.enterReady b
  else s

/-- 200 ms in POWERING are over: MOD_RST is released, the bay enters STARTING, the start timer begins, and the levels of the
module's lines are met (R146). -/
def State.poweringEnds (b : BayId) (s : State) : State :=
  (s.modBay b fun y => { y with
    state := .starting, powerTimer := some (s.after Config.startTicks) }).startingLevels b

/-- MOD_READY is asserted at its level: STARTING goes to READY, or to FAULT beside MOD_FAULT (R146). -/
def State.readyAsserted (b : BayId) (s : State) : State :=
  if (s.bay b).state = .starting then s.startingLevels b else s

/-- MOD_READY is released: READY, SERVING and STOPPING lose their module (R147, R151, R155). -/
def State.readyReleased (b : BayId) (s : State) : State :=
  if (s.bay b).state = .starting then s else s.moduleFails b .readyLost

/-! ### Seat and kind (R143, R148) -/

/-- The kind the pins give: both open CASH, KIND1 closed with KIND2 open VOUCHER, any other UNSUPPORTED (R143). -/
def kindOfPins (kind1 kind2 : Bool) : BayKind :=
  match kind1, kind2 with
  | false, false => .cash
  | true, false => .voucher
  | _, _ => .unsupported

/-- Both contacts closed. -/
def Bay.seated (y : Bay) : Bool := y.seat1.level && y.seat2.level

/-- The state of a bay whose contacts are not both closed (R143). -/
def Bay.unseatedState (y : Bay) : BayState :=
  if !y.seat1.level && !y.seat2.level then .vacant else .misseated

/-- The module has just been pushed home: the kind is latched and SEATED set; a supported module's bay enters OFF, and
POWERING when its enable is on (R143). -/
def State.latchKind (b : BayId) (s : State) : State :=
  let k := kindOfPins (s.bay b).kind1.level (s.bay b).kind2.level
  let t := s.modBay b fun y => { y with
    kind := some k, state := if k = .unsupported then .unsupported else .off }
  let latched := t.raiseBay b fun f => { f with seated := true }
  if k ≠ .unsupported ∧ (s.bay b).enable then latched.enterPowering b else latched

/-- The module has just left its seat: service ends, power goes off, REMOVED is set and an order served is interrupted
(R143, R148). -/
def State.removeModule (b : BayId) (s : State) : State :=
  let t := s.modBay b fun y => { Bay.powerDown y.unseatedState y with kind := none }
  (t.raiseBay b fun f => { f with removed := true }).interrupt b (s.bay b).service.order

/-- The bay follows its contacts after a change of one of them; `was` says whether both were closed before (R143). -/
def State.followSeats (b : BayId) (was : Bool) (s : State) : State :=
  if (s.bay b).seated then (if was then s else s.latchKind b)
  else if was then s.removeModule b
  else s.modBay b fun y => { y with state := y.unseatedState, kind := none }

/-! ### Paying in units (R150 to R152) -/

/-- The bay has finished its order and enters READY on the same event; the arbiter may hand it the next (R136, R150). -/
def State.serviceDone (b : BayId) (s : State) : State :=
  let t := s.modBay b fun y => { y with
    service := { y.service with
      order := none, unitTimer := none, nextUnit := none, print := none, printFrame := [], printTimer := none } }
  if (s.bay b).state = .stopping then t.endDrain b
  else (t.modBay b fun y => { y with state := .ready }).arbitrate

/-- The order the bay serves is paid in full: DONE, ORDER_DONE at the bay, and the bay goes on (R136, R150, R154, R155). -/
def State.finishOrder (b : BayId) (o : PayOrder) (s : State) : State :=
  ((s.completeOrder o).raiseBay b fun f => { f with orderDone := true }).serviceDone b

/-- An awaited confirmation pays one unit of CASH_UNIT (R150, R155). -/
def State.payUnit (b : BayId) (o : PayOrder) (s : State) : State :=
  let paid := o.paid + s.settings.cashUnit
  let t := (s.modOrder o.number fun x => { x with paid := paid }).modService b fun v => { v with
    unitTimer := none, units := v.units + 1 }
  if o.amount ≤ paid then t.finishOrder b { o with paid := paid }
  else if (s.bay b).state = .stopping then t.endDrain b
  else t.requestUnit b

/-- A confirmation that is not awaited (R152). -/
def State.strayUnit (b : BayId) (s : State) : State :=
  (s.modBay b fun y => { y with stray := satAdd Config.wordMax 1 y.stray }).raiseBay b fun f => { f with strayUnit := true }

/-- The order bay `b` serves, while it is SERVING or STOPPING. -/
def State.served (s : State) (b : BayId) : Option PayOrder :=
  match (s.bay b).state with
  | .serving | .stopping => (s.bay b).service.order.bind s.order
  | _ => none

/-- A confirmation on UNIT_DONE: at a CASH bay it is awaited while a unit is outstanding, stray otherwise; at any other bay
it is not seen (R144, R150, R152). -/
def State.confirmation (b : BayId) (s : State) : State :=
  if (s.bay b).kind = some .cash then
    match s.served b, (s.bay b).service.unitTimer with
    | some o, some _ => s.payUnit b o
    | _, _ => s.strayUnit b
  else s

/-- The UNIT_REQ pulse ends; a next unit that is wanted begins 20 ms later (R150). -/
def State.pulseEnds (b : BayId) (s : State) : State :=
  s.modBay b fun y => { y with service := { y.service with
    pulse := none
    pulseEnd := some s.tick
    nextUnit := if y.state = .serving && y.kind = some .cash && y.service.unitTimer.isNone
      then some (s.after Config.pulseTicks) else none } }

/-! ### Printing (R153 to R155) -/

/-- A frame on BAY_RX: an answer with the outstanding numbers ends the print; any other frame is discarded (R154). -/
def State.printerFrame (b : BayId) (f : Frame) (s : State) : State :=
  match s.served b, (s.bay b).service.print, printerAnswer f with
  | some o, some job, some (.printed j) => if j = job then s.finishOrder b o else s
  | some _, some job, some (.failed j code) => if j = job then s.moduleFails b (.printFailed code) else s
  | _, _, _ => s

/-- A character on BAY_RX: received at a VOUCHER bay, ignored at any other (R144, R154). -/
def State.bayCharacter (b : BayId) (start t : Tick) (c : Cells) (s : State) : State :=
  if (s.bay b).kind = some .voucher then
    let r := (s.bay b).rx.take start t c
    let s' := s.modBay b fun y => { y with rx := r.rx }
    match r.frame with
    | some f => s'.printerFrame b f
    | none => s'
  else s

/-- The last byte of the PRINT frame is sent: the print timer starts (R154). -/
def State.printFrameSent (b : BayId) (s : State) : State :=
  if (s.bay b).service.printFrame = [] then s
  else s.modService b fun v => { v with printFrame := [], printTimer := some (s.after Config.printTicks) }

/-! ### BAY_POWER and BAY_READ (R156, R157) -/

/-- BAY_POWER on, by bay state (R156). -/
def State.powerOn (b : BayId) (s : State) : State :=
  if (s.bay b).state = .off then s.enterPowering b else s

/-- BAY_POWER off, by bay state (R155, R156): a SERVING bay drains, at once when nothing is outstanding. -/
def State.powerOff (b : BayId) (s : State) : State :=
  match (s.bay b).state with
  | .powering | .starting | .ready | .fault => s.modBay b (Bay.powerDown .off)
  | .serving =>
    let t := s.modBay b fun y => { y with state := .stopping, service := { y.service with nextUnit := none } }
    if (s.bay b).service.unitTimer.isNone && (s.bay b).service.print.isNone then t.endDrain b else t
  | _ => s

/-- An accepted BAY_POWER sets the enable and acts on the bay state (R156). -/
def State.setPower (b : BayId) (on : Bool) (s : State) : State :=
  let t := s.modBay b fun y => { y with enable := on }
  if on then t.powerOn b else t.powerOff b

/-- BAY_POWER (R156); the code of the bay state and the enable in its reply have 1 byte each (DESIGN CHOICE, log entry 46). -/
def decideBayPower (bay setting : Nat) (s : State) : Decided :=
  match bayOf bay, yesNo setting with
  | some b, some on =>
    let t := s.setPower b on
    answerOk t (b1 (t.bay b).state.code ++ [flagByte (t.bay b).enable])
  | _, _ => refuse s .range

/-- BAY_READ (R157). -/
def decideBayRead (bay : Nat) (s : State) : Decided :=
  match bayOf bay with
  | some b => answerOk s (bayBytes s.queue.orders s.part.voucherSeq (s.bay b))
  | none => refuse s .range

/-! ### After reset (R159) -/

/-- A bay after reset: filters filled with the present samples, the kind of a seated module latched, its enable the
BAY_AUTOPOWER setting (R159). -/
def Bay.reset (enable : Bool) (y : Bay) : Bay :=
  let k := kindOfPins y.kind1.pin y.kind2.pin
  let seated := y.seat1.pin && y.seat2.pin
  { Bay.vacant enable with
    seat1 := ⟨y.seat1.pin, y.seat1.pin, 0⟩
    seat2 := ⟨y.seat2.pin, y.seat2.pin, 0⟩
    kind1 := Line.steady y.kind1.pin
    kind2 := Line.steady y.kind2.pin
    modReady := Line.steady y.modReady.pin
    modFault := Line.steady y.modFault.pin
    unitDone := Line.steady y.unitDone.pin
    kind := if seated then some k else none
    state := if seated then (if k = .unsupported then .unsupported else .off)
      else if !y.seat1.pin && !y.seat2.pin then .vacant else .misseated }

end Sys2Proof.Machine
end

