-- ==== Sys2Proof/Machine/Accounts.lean ====
section
/-! DEFINITION. The account table (chapter 6): writing and reading slots, the account window, deliveries. -/

namespace Sys2Proof.Machine

/-- A slot is referenced while a docket or a pending order names it (R99). -/
def State.referenced (s : State) (a : Nat) : Bool :=
  s.dockets.any (fun d => d.account = a) || s.queue.orders.any (fun o => o.account = a)

/-- Another non-empty slot holds the account number (R100, step 2). -/
def State.numberTaken (s : State) (index number : Nat) : Bool :=
  s.accounts.toList.zipIdx.any fun p => p.2 ≠ index && (p.1.map Account.number) = some number

/-- The outstanding list of an account record is well formed (R100). -/
def pairsGood (ps : List (Nat × Nat)) : Bool :=
  ps.length ≤ 24 && ps.all (fun p => p.1 < 24 && 1 ≤ p.2 && p.2 ≤ Config.wordMax) && decide (ps.map Prod.fst).Nodup

/-- An account record is well formed (R100). -/
def recordGood (r : AccountData) : Bool :=
  r.state = 0 ||
    ((r.state = 1 || r.state = 2) && 1 ≤ r.number && r.number ≤ 4294967295 && r.dayCap ≤ Config.maxAmount
      && r.credit ≤ Config.maxAmount && r.paidToday ≤ Config.maxAmount && r.paidToday ≤ r.dayCap && pairsGood r.pairs)

/-- The outstanding counts a list of pairs gives: listed types their count, all others 0 (R101). -/
def outstandingOf (ps : List (Nat × Nat)) : Vector Nat 24 :=
  ps.foldl (fun o p => o.setIfInBounds p.1 p.2) (Vector.replicate 24 0)

/-- The slot an account record describes (R101). -/
def slotOf (r : AccountData) : Option Account :=
  if r.state = 0 then none
  else some ⟨decide (r.state = 2), r.number, r.cash, r.voucher, r.dayCap, r.paidToday, r.credit, outstandingOf r.pairs⟩

/-- Whether a write would empty a slot or give it another account number (R100, step 3). -/
def changesHolder (s : State) (r : AccountData) : Bool :=
  r.state = 0 || ((s.account r.index).map Account.number) ≠ some r.number

/-- ACCT_WRITE (R100, R101). -/
def decideAcctWrite (r : AccountData) (s : State) : Decided :=
  if ¬ r.index < 64 ∨ ¬ recordGood r then refuse s .range
  else if r.state ≠ 0 ∧ s.numberTaken r.index r.number then refuse s .duplicate
  else if s.referenced r.index ∧ changesHolder s r then refuse s .inUse
  else answerOk { s with accounts := s.accounts.setIfInBounds r.index (slotOf r) } (b1 r.index)

/-- ACCT_READ (R103). -/
def decideAcctRead (index : Nat) (s : State) : Decided :=
  if index < 64 then answerOk s (accountBytes index (s.account index)) else refuse s .range

/-- The slots a window reply takes, and its cursor after them: slots are examined from `cursor` to `last`, an EMPTY one is
passed, a record that fits is taken, one that does not ends the reply (R105). -/
def windowBatch (s : State) (last : Nat) : Nat → Nat → Nat → Nat × List Nat
  | 0, cursor, _ => (cursor, [])
  | fuel + 1, cursor, room =>
    if cursor ≤ last then
      match s.account cursor with
      | none => windowBatch s last fuel (cursor + 1) room
      | some a =>
        let size := (accountBytes cursor (some a)).length
        if size ≤ room then
          let rest := windowBatch s last fuel (cursor + 1) (room - size)
          (rest.1, cursor :: rest.2)
        else (cursor, [])
    else (cursor, [])

/-- The next window reply (R105): OK with at least one record, END with none. -/
def windowReply (w : Window) (s : State) : Decided :=
  let batch := windowBatch s w.last 65 w.cursor Config.windowRoom
  let s' : State := { s with port := { s.port with window := some { w with cursor := batch.1 } } }
  (s', ⟨if batch.2 = [] then .ended else .ok,
    b1 batch.1 ++ b1 batch.2.length ++ batch.2.flatMap fun a => accountBytes a (s.account a)⟩)

/-- ACCT_RANGE (R104). -/
def decideAcctRange (first last : Nat) (s : State) : Decided :=
  if first ≤ last ∧ last < 64 then windowReply ⟨last, first, first⟩ s else refuse s .range

/-- ACCT_NEXT (R105). -/
def decideAcctNext (s : State) : Decided :=
  match s.port.window with
  | some w => windowReply w s
  | none => refuse s .badState

/-- The outstanding count of a type; 0 beyond the table. -/
def Account.count (a : Account) (t : Nat) : Nat := (a.outstanding[t]?).getD 0

/-- ISSUE (R107). -/
def decideIssue (account type count : Nat) (s : State) : Decided :=
  if ¬ account < 64 ∨ ¬ type < 24 ∨ ¬ (1 ≤ count ∧ count ≤ 65535) then refuse s .range
  else match s.account account with
    | none => refuse s .notFound
    | some a =>
      if !(s.type type).enabled then refuse s .range
      else
        let n := satAdd Config.wordMax count (a.count type)
        answerOk (s.modAccount account fun a => { a with outstanding := a.outstanding.setIfInBounds type n }) (le2 n)

end Sys2Proof.Machine
end

