-- ==== Sys2Proof/Machine/SettlementUnit.lean ====
section
/-! DEFINITION. The settlement unit (chapter 7): totals, matching, pricing, the applied method, the split, the settlement
record, and SETTLE_READ. -/

namespace Sys2Proof.Machine

/-! ### Totals, matching, pricing (R113 to R116) -/

/-- The containers of a type and condition in a run list (R113). -/
def totalOf (runs : List Run) (t : Nat) (c : Condition) : Nat :=
  ((runs.filter fun r => r.key.type = t && r.key.condition = c).map Run.count).sum

/-- The bottles of a type in a run list (R113). -/
def bottlesOf (runs : List Run) (t : Nat) : Nat :=
  ((runs.filter fun r => r.key.type = t).map fun r => r.count * r.key.bottles).sum

/-- The types of a run list, rising (R113). -/
def typesOf (runs : List Run) : List Nat := (List.range 24).filter fun t => runs.any fun r => r.key.type = t

/-- The four counts of R114. -/
structure Matched where
  good : Nat
  damaged : Nat
  surplusGood : Nat
  surplusDamaged : Nat
  deriving DecidableEq, Repr

/-- Returns matched against the outstanding count, good before damaged (R114). -/
def matchReturns (outstanding good damaged : Nat) : Matched :=
  let mg := min good outstanding
  let md := min damaged (outstanding - mg)
  ⟨mg, md, good - mg, damaged - md⟩

/-- The exact sum of the five line amounts, each rounded down once (R115). -/
def priceLines (e : TypeEntry) (m : Matched) (bottles : Nat) : Nat :=
  m.good * e.deposit + m.damaged * e.deposit * e.damagedPermille / 1000
    + m.surplusGood * e.deposit * e.surplusPermille / 1000
    + m.surplusDamaged * e.deposit * e.damagedPermille * e.surplusPermille / 1000000 + bottles * e.bottleDeposit

/-- An amount bounded by MAX_AMOUNT (R115, R116). -/
def bounded (x : Nat) : Nat := min x Config.maxAmount

/-- One type of a docket settled: its line, and whether its subtotal was clamped (R113 to R115). -/
def settleType (types : Vector TypeEntry 24) (a : Account) (runs : List Run) (t : Nat) : SettlementLine × Bool :=
  let g := totalOf runs t .good
  let d := totalOf runs t .damaged
  let b := bottlesOf runs t
  let m := matchReturns (a.count t) g d
  let exact := priceLines ((types[t]?).getD TypeEntry.default) m b
  (⟨t, g, d, b, m.good + m.damaged, m.surplusGood + m.surplusDamaged, bounded exact⟩, decide (Config.maxAmount < exact))

/-- All types of a docket, rising by type (R113). -/
def settleTypes (types : Vector TypeEntry 24) (a : Account) (runs : List Run) : List (SettlementLine × Bool) :=
  (typesOf runs).map (settleType types a runs)

/-- The exact sum of the subtotals (R116). -/
def exactCredit (ls : List SettlementLine) : Nat := (ls.map SettlementLine.subtotal).sum

/-! ### Applied method and split (R117 to R119) -/

/-- The applied method and whether it is a suspension or a method downgrade (R117). -/
def appliedMethod (requested : Method) (a : Account) : Method × Bool × Bool :=
  match requested.pay? with
  | none => (.account, false, false)
  | some p =>
    if a.suspended then (.account, true, false)
    else if a.permits p then (requested, false, false)
    else (.account, false, true)

/-- A split of the docket credit: payout, and the flags CAP_LIMITED and ROUNDED. -/
structure Split where
  payout : Nat
  capLimited : Bool
  rounded : Bool
  deriving DecidableEq, Repr

/-- The split of credit `c` under the applied method (R118, R119). -/
def splitCredit (applied : Method) (a : Account) (unit c : Nat) : Split :=
  match applied.pay? with
  | none => ⟨0, false, false⟩
  | some m =>
    let left := a.dayCap - a.paidToday
    let p0 := min c left
    let p := m.round unit p0
    ⟨p, decide (left < c), decide (p < p0)⟩

/-- What a settlement works out before it changes anything (R112, steps 1 to 3). -/
structure Computed where
  lines : List SettlementLine
  credit : Nat
  applied : Method
  payout : Nat
  /-- the remainder R -/
  posted : Nat
  flags : SettlementFlags
  deriving DecidableEq, Repr

/-- The deposit computation of a docket for account `a` (R113 to R119). -/
def computeSettlement (types : Vector TypeEntry 24) (unit : Nat) (a : Account) (requested : Method) (runs : List Run) :
    Computed :=
  let settled := settleTypes types a runs
  let lines := settled.map Prod.fst
  let c := bounded (exactCredit lines)
  let applied := appliedMethod requested a
  let split := splitCredit applied.1 a unit c
  { lines := lines
    credit := c
    applied := applied.1
    payout := split.payout
    posted := c - split.payout
    flags :=
      { saturated := settled.any Prod.snd || decide (Config.maxAmount < exactCredit lines)
        suspendedDowngrade := applied.2.1
        methodDowngrade := applied.2.2
        capLimited := split.capLimited
        rounded := split.rounded
        creditSaturated := decide (Config.maxAmount < a.credit + (c - split.payout)) } }

/-! ### Changes (R120 to R123) -/

/-- The outstanding counts after the matched containers of each line have left them (R114, R120). -/
def lowerOutstanding (o : Vector Nat 24) (lines : List SettlementLine) : Vector Nat 24 :=
  lines.foldl (fun o l => o.setIfInBounds l.type ((o[l.type]?).getD 0 - l.matched)) o

/-- The account after a settlement (R120). -/
def Account.settle (c : Computed) (a : Account) : Account :=
  { a with
    outstanding := lowerOutstanding a.outstanding c.lines
    credit := bounded (a.credit + c.posted)
    paidToday := a.paidToday + c.payout }

/-- The settlement record (R122). -/
def settlementRecord (lane : LaneId) (d : Docket) (a : Account) (c : Computed) (order : Option Nat) : Settlement where
  docket := d.number
  lane := lane
  account := d.account
  accountNumber := a.number
  requested := d.method
  applied := c.applied
  closeCause := d.closeCause.getD .request
  day := d.openedDay
  lines := c.lines
  credit := c.credit
  payout := c.payout
  posted := c.posted
  order := order
  flags := c.flags
  refused := d.refused
  misrouted := d.misrouted
  voided := d.voided

/-- The record is stored as the newest, and at most 16 are kept (R123). -/
def State.storeSettlement (r : Settlement) (s : State) : State :=
  { s with settlements := pushCapped Config.settlementsMax s.settlements r }

/-- What an EMPTY slot would settle as. No docket names one (R99); for the totality of the model alone (log entry 27). -/
def Account.blank : Account := ⟨false, 0, false, false, 0, 0, 0, Vector.replicate 24 0⟩

/-- The computation of docket `d`'s settlement in state `s`. -/
def State.computed (s : State) (d : Docket) : Computed :=
  computeSettlement s.types s.settings.cashUnit ((s.account d.account).getD Account.blank) d.method d.runs

/-- The order a settlement makes, when its payout is above 0: its method and amount (R121). -/
def Computed.order? (c : Computed) : Option (PayMethod × Nat) :=
  if 0 < c.payout then c.applied.pay?.map fun m => (m, c.payout) else none

/-- Steps 4 to 6 of R112: the account, the order, the record. -/
def State.settleAccount (lane : LaneId) (d : Docket) (s : State) : State :=
  let c := s.computed d
  let a := (s.account d.account).getD Account.blank
  let t := s.modAccount d.account (Account.settle c)
  match c.order? with
  | some (m, p) => (t.appendOrder d.account (some d.number) m p).storeSettlement
      (settlementRecord lane d a c (some t.orderNumber))
  | none => t.storeSettlement (settlementRecord lane d a c none)

/-! ### SETTLE_READ (R124) -/

/-- The newest record with a docket number (R124). -/
def State.settlement (s : State) (n : Nat) : Option Settlement := s.settlements.reverse.find? fun r => r.docket = n

/-- SETTLE_READ (R124). -/
def decideSettleRead (docket line : Nat) (s : State) : Decided :=
  if docket = 0 ∨ 23 < line then refuse s .range
  else match s.settlement docket with
    | some r => answerOk s (settlementBytes r line)
    | none => refuse s .notFound

end Sys2Proof.Machine
end

