-- ==== Sys2Proof/Machine/Types.lean ====
section
/-! DEFINITION. The container type table (chapter 2, sections 2.1 and 2.2) and the six steps of classification
(section 2.4) but for the reservation check, which the docket engine makes. -/

namespace Sys2Proof.Machine

/-- The entry an entry record describes. -/
def entryOf (e : TypeEntryData) : TypeEntry :=
  ⟨e.enabled, e.keg, e.owner, e.tag, e.lengthMin, e.lengthMax, e.slots, e.deposit, e.bottleDeposit, e.damagedPermille,
    e.surplusPermille⟩

/-- An entry is well formed: every field in its range, and a KEG has no slots and no bottle deposit (R23, R24). -/
def TypeEntry.wellFormed (e : TypeEntry) : Bool :=
  e.owner ≤ 255 && e.tag ≤ 65535 && e.lengthMin ≤ e.lengthMax && e.lengthMax ≤ 4095 && e.slots ≤ 40
    && e.deposit ≤ 65535 && e.bottleDeposit ≤ 65535 && e.damagedPermille ≤ 1000 && e.surplusPermille ≤ 1000
    && (!e.keg || (e.slots = 0 && e.bottleDeposit = 0))

/-- An enabled entry recognised by its tag (R23). -/
def TypeEntry.tagged (e : TypeEntry) : Bool := e.enabled && e.tag ≠ 0

/-- An enabled entry recognised by its length alone (R23). -/
def TypeEntry.lengthOnly (e : TypeEntry) : Bool := e.enabled && e.tag = 0

/-- Two enabled tagged entries with the same owner code and tag code (R25). -/
def TypeEntry.duplicates (a b : TypeEntry) : Bool := a.tagged && b.tagged && a.owner = b.owner && a.tag = b.tag

/-- Two enabled length-only entries whose windows overlap (R25). -/
def TypeEntry.overlaps (a b : TypeEntry) : Bool :=
  a.lengthOnly && b.lengthOnly && a.lengthMin ≤ b.lengthMax && b.lengthMin ≤ a.lengthMax

/-- Some entry at an index other than `index` stands in relation `r` to `e` (R26, steps 4 and 5). -/
def State.clashes (s : State) (index : Nat) (r : TypeEntry → TypeEntry → Bool) (e : TypeEntry) : Bool :=
  s.types.toList.zipIdx.any fun p => p.2 ≠ index && r e p.1

/-- TYPE_WRITE (R26). -/
def decideTypeWrite (e : TypeEntryData) (s : State) : Decided :=
  if s.dockets ≠ [] then refuse s .inUse
  else if s.part.save.isSome then refuse s .busy
  else if ¬ e.index < 24 ∨ ¬ (entryOf e).wellFormed then refuse s .range
  else if s.clashes e.index TypeEntry.duplicates (entryOf e) then refuse s .duplicate
  else if s.clashes e.index TypeEntry.overlaps (entryOf e) then refuse s .overlap
  else answerOk { s with types := s.types.setIfInBounds e.index (entryOf e) } (b1 e.index)

/-- TYPE_READ (R28). -/
def decideTypeRead (index : Nat) (s : State) : Decided :=
  if index < 24 then answerOk s (typeEntryBytes index (s.type index)) else refuse s .range

/-! ### Classification -/

/-- A length lies in an entry's window (R23). -/
def TypeEntry.fitsLength (e : TypeEntry) (n : Nat) : Bool := e.lengthMin ≤ n && n ≤ e.lengthMax

/-- The index of the first entry that `p` accepts; R25 lets each lookup of classification accept at most one. -/
def findType (types : Vector TypeEntry 24) (p : TypeEntry → Bool) : Option Nat := types.toList.findIdx? p

/-- Step 3: the type of a tagged record, or its refuse reason (R33). -/
def classifyTagged (types : Vector TypeEntry 24) (g : Tag) (length : Nat) : Except RefuseReason Nat :=
  match findType types fun e => e.tagged && e.owner = g.owner && e.tag = g.code with
  | some t => if ((types[t]?).getD TypeEntry.default).fitsLength length then .ok t else .error .lengthMismatch
  | none =>
    if types.toList.any fun e => e.tagged && e.owner = g.owner then .error .unknownType else .error .foreign

/-- Step 4: the type of an untagged record, or UNTAGGED (R34). -/
def classifyUntagged (types : Vector TypeEntry 24) (length : Nat) : Except RefuseReason Nat :=
  match findType types fun e => e.lengthOnly && e.fitsLength length with
  | some t => .ok t
  | none => .error .untagged

/-- Step 1: the refuse reason of an unsteady mark (R31). -/
def UnsteadyReason.refusal : UnsteadyReason → RefuseReason
  | .speed => .speed
  | .unsteady => .unsteady

/-- The bottle count of a record for a type (R36). -/
def TypeEntry.bottlesOf (e : TypeEntry) (necks : Nat) : Nat := if e.keg then 0 else min necks e.slots

/-- Steps 3, 4 and 6: the run key of a record, or its refuse reason (R33, R34, R36). -/
def recognise (types : Vector TypeEntry 24) (p : Passage) : Except RefuseReason RunKey :=
  let found := match p.tag with
    | some g => classifyTagged types g (p.length.getD 0)
    | none => classifyUntagged types (p.length.getD 0)
  found.map fun t =>
    ⟨t, if p.damaged then .damaged else .good, ((types[t]?).getD TypeEntry.default).bottlesOf p.necks, .auto⟩

/-- Step 2: a docket that takes new containers (R32). -/
def takesContainers : Option Docket → Bool
  | some d => d.state ≠ .closing
  | none => false

/-- Steps 1 to 4 and 6 (R30 to R34, R36): what is left to step 5 is a run key. -/
def classifyKey (types : Vector TypeEntry 24) (docket : Option Docket) (p : Passage) : Except RefuseReason RunKey :=
  match p.unsteady with
  | some u => .error u.refusal
  | none => if takesContainers docket then recognise types p else .error .afterClose

end Sys2Proof.Machine
end

