-- ==== Sys2Proof/Machine/Dockets.lean ====
section
/-! DEFINITION. The docket engine (chapter 5): runs, the plan and its reservations, commits and releases, adjustments, and
reading a docket. Opening, closing and cancelling stand with lane control, which they change. -/

namespace Sys2Proof.Machine

/-! ### The plan (R78, R79) -/

/-- A key with the planned count of the tail, and the plan entry it is, if any (R78). -/
structure Tail where
  key : RunKey
  planned : Nat
  /-- the entry's name, or the index of the last run -/
  entry : Nat ⊕ Nat
  deriving DecidableEq, Repr

/-- The planned count of an entry: its target run's count and its pending count (R78). -/
def Docket.planned (d : Docket) (e : PlanEntry) : Nat :=
  ((e.target.bind fun k => d.runs[k]?).map Run.count).getD 0 + e.pending

/-- The docket's tail: the newest plan entry, or with an empty plan the last run (R78). -/
def Docket.tail (d : Docket) : Option Tail :=
  match d.plan.getLast? with
  | some e => some ⟨e.key, d.planned e, .inl e.name⟩
  | none => d.runs.getLast?.map fun r => ⟨r.key, r.count, .inr (d.runs.length - 1)⟩

/-- Whether a record's key may join the tail (R79). -/
def Tail.joins (t : Tail) (k : RunKey) : Bool := t.key = k && t.planned < Config.runCountMax

/-- Whether the run list has room for one more run (R79, R84). -/
def Docket.hasRoom (d : Docket) : Bool := d.runs.length + d.reserved < Config.runsMax

/-- A new plan entry at the end of the plan (R79). -/
def Docket.newEntry (d : Docket) (k : RunKey) (target : Option Nat) : Docket :=
  { d with plan := d.plan ++ [⟨d.nextEntry, k, target, 1⟩], nextEntry := d.nextEntry + 1 }

/-- A record needs a run of its own (R79). -/
def Docket.reserveRun (d : Docket) (k : RunKey) : Option (Docket × Nat) :=
  if d.hasRoom then some ({ d.newEntry k none with reserved := d.reserved + 1 }, d.nextEntry) else none

/-- The reservation check: the docket with the record planned and the entry it belongs to; nothing when there is no room
(R79). -/
def Docket.reserve (d : Docket) (k : RunKey) : Option (Docket × Nat) :=
  match d.tail with
  | some t =>
    if t.joins k then
      match t.entry with
      | .inl n => some ({ d with plan := modifyLast (fun e => e.name = n) (fun e => { e with pending := e.pending + 1 }) d.plan }, n)
      | .inr run => some (d.newEntry k (some run), d.nextEntry)
    else d.reserveRun k
  | none => d.reserveRun k

/-- One record of an entry has gone: its pending count falls, and at 0 the entry leaves the plan (R80, R82). -/
def dropPending (n : Nat) (plan : List PlanEntry) : List PlanEntry :=
  (modifyFirst (fun e => e.name = n) (fun e => { e with pending := e.pending - 1 }) plan).filter fun e => 0 < e.pending

/-- A container is committed to the run of its plan entry: the target run rises, or an unmade target is made from its
reservation (R80). -/
def Docket.commit (n : Nat) (d : Docket) : Docket :=
  match d.plan.find? fun e => e.name = n with
  | none => d
  | some e => match e.target with
    | some k => { d with
        runs := d.runs.modify k fun r => { r with count := r.count + 1 }
        plan := dropPending n d.plan
        accepted := d.accepted + 1 }
    | none => { d with
        runs := d.runs ++ [⟨e.key, 1⟩]
        plan := dropPending n
          (modifyFirst (fun x => x.name = n) (fun x => { x with target := some d.runs.length }) d.plan)
        reserved := d.reserved - 1
        accepted := d.accepted + 1 }

/-- A record of an entry is removed without being committed: its place is released, and an unmade entry that empties gives
its reservation back (R82). -/
def Docket.release (n : Nat) (d : Docket) : Docket :=
  match d.plan.find? fun e => e.name = n with
  | none => d
  | some e => { d with
      plan := dropPending n d.plan
      reserved := if e.pending ≤ 1 ∧ e.target.isNone then d.reserved - 1 else d.reserved }

/-- A record that may belong to an entry is released (R82). -/
def Docket.releaseRecord (p : Passage) (d : Docket) : Docket :=
  match p.entry with
  | some n => d.release n
  | none => d

/-- A count that rises by one and stays at 65535 (R72). -/
def countUp (n : Nat) : Nat := satAdd Config.wordMax 1 n

/-! ### Adjusting (R83 to R86) -/

/-- Whether delta containers need a new run (R84). -/
def Docket.needsRun (d : Docket) (k : RunKey) (n : Nat) : Bool :=
  match d.runs.getLast? with
  | some r => !(r.key = k && r.count + n ≤ Config.runCountMax)
  | none => true

/-- The room the last run has for a key (R84). -/
def Docket.lastRoom (d : Docket) (k : RunKey) : Nat :=
  match d.runs.getLast? with
  | some r => if r.key = k then Config.runCountMax - r.count else 0
  | none => 0

/-- Containers added by hand: the last run takes what it can, what remains goes into one new run (R84). -/
def Docket.add (k : RunKey) (n : Nat) (d : Docket) : Docket :=
  let taken := min n (d.lastRoom k)
  let runs := if 0 < taken then d.runs.modify (d.runs.length - 1) fun r => { r with count := r.count + taken } else d.runs
  { d with
    runs := if taken < n then runs ++ [⟨k, n - taken⟩] else runs
    accepted := d.accepted + n }

/-- A run of a type, condition and bottle count, of either source (R85). -/
def Run.isOf (type : Nat) (c : Condition) (bottles : Nat) (r : Run) : Bool :=
  r.key.type = type && r.key.condition = c && r.key.bottles = bottles

/-- The containers of the matching runs (R83, step 6). -/
def Docket.holds (d : Docket) (type : Nat) (c : Condition) (bottles : Nat) : Nat :=
  ((d.runs.filter (Run.isOf type c bottles)).map Run.count).sum

/-- Removal from a run list given newest first: each matching run gives the smaller of its count and what remains (R85). -/
def takeNewest (p : Run → Bool) : Nat → List Run → List Run
  | _, [] => []
  | n, r :: rs => if p r then { r with count := r.count - n } :: takeNewest p (n - r.count) rs else r :: takeNewest p n rs

/-- Where a target stands once the runs emptied by a removal are deleted and the list closes up; a deleted target is unmade
(R77, R86). -/
def retarget (lowered : List Run) (k : Nat) : Option Nat :=
  match lowered[k]? with
  | some r => if 0 < r.count then some ((lowered.take k).filter fun x => 0 < x.count).length else none
  | none => none

/-- Containers removed by hand (R85, R86). -/
def Docket.remove (p : Run → Bool) (n : Nat) (d : Docket) : Docket :=
  let lowered := (takeNewest p n d.runs.reverse).reverse
  let plan := d.plan.map fun e => { e with target := e.target.bind (retarget lowered) }
  { d with
    runs := lowered.filter fun r => 0 < r.count
    plan := plan
    reserved := d.reserved + (d.plan.filter fun e => e.target.isSome && (e.target.bind (retarget lowered)).isNone).length
    accepted := d.accepted - n }

/-- The reply of an accepted DOCKET_ADJUST: accepted count and runs used (R83). -/
def adjusted (i : LaneId) (d : Docket) (s : State) : Decided :=
  answerOk (s.modDocket i fun _ => d) (le2 d.accepted ++ b1 d.runs.length)

/-- DOCKET_ADJUST (R83). -/
def decideDocketAdjust (lane type condition bottles : Nat) (delta : Int) (s : State) : Decided :=
  match laneOf lane, Condition.ofCode condition with
  | some i, some c =>
    if ¬ type < 24 ∨ 40 < bottles ∨ delta < -255 ∨ 255 < delta ∨ delta = 0 then refuse s .range
    else match (s.lane i).docket with
      | none => refuse s .noDocket
      | some d =>
        if d.state = .closing then refuse s .badState
        else if 0 < delta then
          if !(s.type type).enabled || decide ((s.type type).slots < bottles) then refuse s .range
          else
            let k : RunKey := ⟨type, c, bottles, .manual⟩
            if d.needsRun k delta.toNat && !d.hasRoom then refuse s .docketFull
            else adjusted i (d.add k delta.toNat) s
        else if d.holds type c bottles < (-delta).toNat then refuse s .short
        else adjusted i (d.remove (Run.isOf type c bottles) (-delta).toNat) s
  | _, _ => refuse s .range

/-- DOCKET_READ (R94). -/
def decideDocketRead (lane : Nat) (s : State) : Decided :=
  match laneOf lane with
  | none => refuse s .range
  | some i => match (s.lane i).docket with
    | none => refuse s .noDocket
    | some d => answerOk s (docketBytes i d)

end Sys2Proof.Machine
end

