-- ==== Sys2Proof/Machine/LaneControl.lean ====
section
/-! DEFINITION. Lane control (chapter 4): the timers, entry to RUNNING, settlement of a lane's docket, entry to HELD with the
voiding of what is in flight, closing a docket, and the quiet and auto-close timers. -/

namespace Sys2Proof.Machine

/-! ### Timers (R18, R65, R66) -/

/-- The tick on which a quiet timer started now expires (R65). -/
def State.quietDue (s : State) : Tick := s.after (s.settings.quietTime * Config.ticksPerSecond)

/-- The tick on which an auto-close timer started now expires; none runs when AUTO_CLOSE is 0 (R66). -/
def State.autoCloseDue (s : State) : Option Tick :=
  if s.settings.autoClose = 0 then none else some (s.after (s.settings.autoClose * Config.ticksPerMinute))

/-- The tick on which a jam timer started now expires (R18). -/
def State.jamDue (s : State) : Tick := s.after (s.settings.jamTime * Config.ticksPerSecond)

/-- All of a lane's timers stopped and its diverter's step abandoned (R51, R59, R64). -/
def Lane.stopService (l : Lane) : Lane :=
  { l with
    quietTimer := none, autoCloseTimer := none, jamA := none, jamB := none
    diverter := { l.diverter with step := none } }

/-- The lane enters RUNNING on the event that found home: the jam timers of blocked beams and the docket's timer start
(R57). -/
def State.enterRunning (i : LaneId) (s : State) : State :=
  s.modLane i fun l => { l with
    state := .running
    jamA := if l.beamA.level then some s.jamDue else none
    jamB := if l.beamB.level then some s.jamDue else none
    quietTimer := if (l.docket.map Docket.state) = some .opened then some s.quietDue else none
    autoCloseTimer := if (l.docket.map Docket.state) = some .quiet then s.autoCloseDue else none }

/-! ### Settlement of a lane's docket (R64, R90) -/

/-- The docket leaves its lane's slot, SETTLED is set with its number, and the lane follows: from RUNNING or HOMING to OFF,
from HELD nowhere (R64, R90). -/
def Lane.afterSettlement (d : Docket) (l : Lane) : Lane :=
  let gone := { l with docket := none, lastSettled := some d.number }
  if l.state = .held then gone else { gone.stopService with state := .off }

/-- The lane's docket settles: account, order and record (R112), the docket removed, its commitment released when it made no
order (R121), the lane's state (R64), and the arbiter on a new order (R135). On a settlement without an order LANE (SETTLED) joins
the attention set before QUEUE (PRESSURE_NORMAL) (DESIGN CHOICE, log entry 42). -/
def State.settleDocket (i : LaneId) (s : State) : State :=
  match (s.lane i).docket with
  | none => s
  | some d =>
    let made := (s.computed d).order?.isSome
    let booked := s.settleAccount i d
    let removed := (booked.modLane i (Lane.afterSettlement d)).raiseLane i fun f => { f with settled := true }
    let released := if d.method ≠ .account ∧ ¬ made then removed.dropCommitment else removed
    if made then released.arbitrate else released

/-! ### Entry to HELD (R59, R60) -/

/-- The records of a travel queue that are not committed (R60). -/
def uncommitted (travel : List Passage) : List Passage := travel.filter fun p => !p.committed

/-- The records a hold voids (R60). -/
def Lane.voids (l : Lane) : Nat := l.span.length + (uncommitted l.travel).length

/-- The docket after the records in flight are voided against it: every place released, the voided count raised (R60,
R82). -/
def Docket.voidRecords (travel : List Passage) (n : Nat) (d : Docket) : Docket :=
  let released := (uncommitted travel).foldl (fun d p => d.releaseRecord p) d
  { released with voided := satAdd Config.wordMax n released.voided }

/-- The lane stopped with nothing in flight (R51, R59, R60). -/
def Lane.hold (l : Lane) : Lane :=
  { l.stopService with
    state := .held, span := [], travel := []
    docket := l.docket.map (Docket.voidRecords l.travel l.voids)
    voidCount := satAdd 255 l.voids l.voidCount }

/-- The voiding sets VOIDED when at least one record is voided (R60). -/
def State.raiseVoided (i : LaneId) (n : Nat) (s : State) : State :=
  if n = 0 then s else s.raiseLane i fun f => { f with voided := true }

/-- The lane stops and voids, and the reason is added (R58 to R60). -/
def State.holdLane (i : LaneId) (r : HoldReason) (s : State) : State :=
  ((s.modLane i Lane.hold).addHold i r).raiseVoided i (s.lane i).voids

/-- A CLOSING docket of a lane that a hold has emptied settles (R60, R89). -/
def State.settleIfClosing (i : LaneId) (s : State) : State :=
  if ((s.lane i).docket.map Docket.state) = some .closing then s.settleDocket i else s

/-- Entry to HELD from HOMING or RUNNING; a CLOSING docket then settles unless the hold is DOCKET_CANCEL's (R59, R60,
R92). -/
def State.enterHeld (i : LaneId) (r : HoldReason) (s : State) : State :=
  let held := s.holdLane i r
  if r = .cancelled then held else held.settleIfClosing i

/-- A fault handed to lane control: it holds a lane in HOMING or RUNNING (R19, R59). -/
def State.laneFault (i : LaneId) (r : HoldReason) (s : State) : State :=
  match (s.lane i).state with
  | .homing | .running => s.enterHeld i r
  | .off | .held => s

/-! ### Closing (R67, R88, R89) -/

/-- Whether nothing is in flight on a lane. -/
def Lane.clear (l : Lane) : Bool := l.span.isEmpty && l.travel.isEmpty

/-- A close sets the cause and stops the docket's timers (R88). -/
def Lane.close (c : CloseCause) (l : Lane) : Lane :=
  { l with
    docket := l.docket.map fun d => { d with state := .closing, closeCause := some c }
    quietTimer := none, autoCloseTimer := none }

/-- The lane's docket is closed: it settles at once when both lists are empty and is CLOSING otherwise (R88). -/
def State.closeDocket (i : LaneId) (c : CloseCause) (s : State) : State :=
  let closed := s.modLane i (Lane.close c)
  if (s.lane i).clear then closed.settleDocket i else closed

/-- A CLOSING docket whose lane has just been emptied settles (R50, R89). -/
def State.settleIfDrained (i : LaneId) (s : State) : State :=
  if (s.lane i).clear then s.settleIfClosing i else s

/-! ### The quiet and auto-close timers (R66, R67) -/

/-- The quiet timer expires: the docket moves from OPEN to QUIET, the auto-close timer starts, QUIET is set (R66). -/
def State.quietExpires (i : LaneId) (s : State) : State :=
  let stopped := s.modLane i fun l => { l with quietTimer := none }
  if ((s.lane i).docket.map Docket.state) = some .opened then
    ((stopped.modLane i fun l => { l with autoCloseTimer := s.autoCloseDue }).modDocket i fun d => { d with
      state := .quiet }).raiseLane i fun f => { f with quiet := true }
  else stopped

/-- The auto-close timer expires: the docket is closed with close cause AUTO and AUTO_CLOSED is set (R67). -/
def State.autoCloseExpires (i : LaneId) (s : State) : State :=
  if ((s.lane i).docket.map Docket.state) = some .quiet then
    (s.raiseLane i fun f => { f with autoClosed := true }).closeDocket i .auto
  else s.modLane i fun l => { l with autoCloseTimer := none }

/-- An A_on that made a record restarts the quiet timer of an OPEN docket and takes a QUIET one back to OPEN (R9, R65,
R66). -/
def State.laneAwake (i : LaneId) (s : State) : State :=
  s.modLane i fun l =>
    match l.docket with
    | some d =>
      if d.state = .closing then l
      else { l with docket := some { d with state := .opened }, quietTimer := some s.quietDue, autoCloseTimer := none }
    | none => l

end Sys2Proof.Machine
end

