-- ==== Sys2Proof/Machine/Outputs.lean ====
section
/-! DEFINITION. The output lines of the part, each as the rule that governs it computes it from the state (log entry 29). -/

namespace Sys2Proof.Machine

/-- The number of patterns of a drive mode (R38). -/
def DriveMode.patternLength : DriveMode → Nat
  | .single => 4
  | .double => 4
  | .half => 8

/-- The energised windings PH0, PH1, PH2, PH3 at a phase index (R38). -/
def DriveMode.pattern : DriveMode → Nat → List Bool
  | .single, 0 => [true, false, false, false]
  | .single, 1 => [false, true, false, false]
  | .single, 2 => [false, false, true, false]
  | .single, _ => [false, false, false, true]
  | .double, 0 => [true, true, false, false]
  | .double, 1 => [false, true, true, false]
  | .double, 2 => [false, false, true, true]
  | .double, _ => [true, false, false, true]
  | .half, 0 => [true, false, false, false]
  | .half, 1 => [true, true, false, false]
  | .half, 2 => [false, true, false, false]
  | .half, 3 => [false, true, true, false]
  | .half, 4 => [false, false, true, false]
  | .half, 5 => [false, false, true, true]
  | .half, 6 => [false, false, false, true]
  | .half, _ => [true, false, false, true]

/-- BELT: on while the lane is RUNNING (R55). -/
def State.belt (s : State) (i : LaneId) : Bool := (s.lane i).state = .running

/-- PH0 to PH3: the pattern at the phase index in HOMING and RUNNING, off in OFF and HELD (R40). -/
def State.phaseLines (s : State) (i : LaneId) : List Bool :=
  match (s.lane i).state with
  | .homing | .running => (s.laneSettings i).mode.pattern (s.lane i).diverter.phaseIndex
  | .off | .held => [false, false, false, false]

/-- Whether the module's supply is on in a bay state (R145). -/
def BayState.powered : BayState → Bool
  | .powering | .starting | .ready | .serving | .stopping => true
  | .vacant | .misseated | .unsupported | .off | .fault => false

/-- BAY_PWR (R145). -/
def State.bayPower (s : State) (b : BayId) : Bool := (s.bay b).state.powered

/-- MOD_RST driven low; released otherwise (R145). -/
def State.moduleReset (s : State) (b : BayId) : Bool := (s.bay b).state = .powering

/-- UNIT_REQ asserted (R150). -/
def State.unitRequest (s : State) (b : BayId) : Bool := (s.bay b).service.pulse.isSome

/-- DOCK_WAIT: on while the pressure is HIGH (R132). -/
def State.dockWait (s : State) : Bool := s.queue.pressure = .high

/-- The levels of a character's ten bit cells, in order: the start bit low, eight data bits least significant first, the stop bit
high (R160). -/
def characterLevels (b : Byte) : List Bool :=
  [false, b.getLsbD 0, b.getLsbD 1, b.getLsbD 2, b.getLsbD 3, b.getLsbD 4, b.getLsbD 5, b.getLsbD 6, b.getLsbD 7, true]

/-- The level of a sending line in bit cell `k`, counted from the start of the frame being sent: its characters follow back to
back, each start bit directly behind the previous stop bit, and the line is high after them and while it is idle (R160). -/
def lineLevel (frame : List Byte) (k : Nat) : Bool := (frame.flatMap characterLevels).getD k true

/-- The bits a line sends in a second at a rate (R160). -/
def Rate.bitsPerSecond : Rate → Nat
  | .r9600 => 9600
  | .r19200 => 19200
  | .r57600 => 57600
  | .r115200 => 115200

/-- The frame on TXD; empty while the line is idle and high (R160, R166). -/
def State.txFrame (s : State) : List Byte :=
  match s.port.sending with
  | .idle => []
  | .reply bytes => bytes
  | .notice bytes => bytes

/-- TXD in bit cell `k` of what is being sent: high between frames (R160, R166). -/
def State.txd (s : State) (k : Nat) : Bool := lineLevel s.txFrame k

/-- BAY_TX in bit cell `k` of what is being sent: idle without a PRINT frame (R145, R154). -/
def State.bayTx (s : State) (b : BayId) (k : Nat) : Bool := lineLevel (s.bay b).service.printFrame k

end Sys2Proof.Machine
end

