-- ==== Sys2Proof/Machine/DiverterDrive.lean ====
section
/-! DEFINITION. The diverter drive (chapter 3): steps, homing, moves toward the target, gate arrival and gate clear. -/

namespace Sys2Proof.Machine

/-! ### Steps (R38, R39) -/

/-- The phase index after a step of a pattern of `n` indexes begins (R38). -/
def stepPhase (n index : Nat) : Side → Nat
  | .refuse => (index + 1) % n
  | .accept => (index + (n - 1)) % n

/-- The ticks a step of lane `i` takes (R39). -/
def State.stepTicks (s : State) (i : LaneId) : Nat := (s.laneSettings i).stepPeriod * Config.ticksPerMs

/-- A step begins: the phase index moves at once, the step completes STEP_PERIOD later (R39). -/
def State.beginStep (i : LaneId) (side : Side) (s : State) : State :=
  s.modDiverter i fun v => { v with
    phaseIndex := stepPhase (s.laneSettings i).mode.patternLength v.phaseIndex side
    step := some ⟨side, s.after (s.stepTicks i)⟩ }

/-- The position after a completed step in running service (R38). -/
def stepPosition (position : Nat) : Side → Nat
  | .refuse => position + 1
  | .accept => position - 1

/-! ### Homing (R41 to R43) -/

/-- Home is found: position 0, homed, and the lane enters RUNNING (R42). -/
def State.homeFound (i : LaneId) (s : State) : State :=
  (s.modDiverter i fun v => { v with position := 0, homed := true, step := none }).enterRunning i

/-- DIV_HOME's pin shows the next of the line's free levels: free, since no row of the table tells a change of it (DESIGN
CHOICE, log entry 45). -/
def Diverter.showHome (levels : Nat → Bool) (v : Diverter) : Diverter :=
  { v with home := { v.home with pin := levels v.homeReads }, homeReads := v.homeReads + 1 }

/-- One tick of DIV_HOME's filter that no step took: the pin shows a free level and is sampled (R41, log entry 45). -/
def Diverter.passHome (levels : Nat → Bool) (v : Diverter) : Diverter :=
  let w := v.showHome levels
  { w with home := w.home.sample }

/-- DIV_HOME's filter runs up to tick `t`: it samples once on each tick that has passed since it last did. The last three samples
are all it keeps, so no more than three are taken (R41, R53, log entry 45). -/
def State.settleHome (i : LaneId) (t : Tick) (s : State) : State :=
  s.modDiverter i fun v =>
    { (Diverter.passHome (Config.divHome i s.port.resets))^[min 3 (Tick.since t v.homeTick)] v with homeTick := t }

/-- DIV_HOME's filter has run up to the last tick, and its pin shows a free level for this one (R41, log entry 45). -/
def State.showHome (i : LaneId) (s : State) : State :=
  (s.settleHome i (s.tick - 1)).modDiverter i fun v =>
    { v.showHome (Config.divHome i s.port.resets) with homeTick := s.tick }

/-- A line whose accepted level an event tells: samples that give it stand, others are replaced by it (DESIGN
CHOICE, log entry 45). -/
def Line.told (b : Bool) (l : Line) : Line := if l.level = b then l else Line.steady b

/-- DIV_HOME's accepted level on the present tick is `home`, as HOMING_STEP_COMPLETE tells (R41, log entries 9 and 45). -/
def State.tellHome (i : LaneId) (home : Bool) (s : State) : State :=
  (s.settleHome i s.tick).modDiverter i fun v => { v with home := v.home.told home }

/-- Homing begins: the accepted level of DIV_HOME is read, and home is found at once when it is active, else the first step toward
ACCEPT begins (R41). -/
def State.beginHoming (i : LaneId) (s : State) : State :=
  let t := (s.modLane i fun l => { l with state := .homing }).modDiverter i fun v => { v with
    homed := false, homingCount := 0, step := none }
  if (s.lane i).diverter.home.level then t.homeFound i else t.beginStep i .accept

/-- Homing begins at the lane's entry to HOMING and reads the level that DIV_HOME's filter has accepted on the present tick
(R41). -/
def State.startHoming (i : LaneId) (s : State) : State := (s.settleHome i s.tick).beginHoming i

/-- A homing step completes: the count rises and DIV_HOME is read; home found, a further step, or DIVERTER_HOME after N + 8
steps (R41, R43). -/
def State.homingStep (i : LaneId) (s : State) : State :=
  let count := (s.lane i).diverter.homingCount + 1
  let t := s.modDiverter i fun v => { v with homingCount := count, step := none }
  if (s.lane i).diverter.home.level then t.homeFound i
  else if count < (s.laneSettings i).throwSteps + 8 then t.beginStep i .accept
  else t.laneFault i .diverterHome

/-! ### Moves (R45, R46) -/

/-- The position of a side (R38). -/
def sidePosition (throwSteps : Nat) : Side → Nat
  | .accept => 0
  | .refuse => throwSteps

/-- The paddle at rest on a side: its position and no step in progress (R38). -/
def Diverter.atRest (v : Diverter) (throwSteps : Nat) (side : Side) : Bool :=
  v.step.isNone && v.position = sidePosition throwSteps side

/-- The gate is occupied while a committed record waits for its gate clear (R46). -/
def Lane.gateOccupied (l : Lane) : Bool := l.travel.any Passage.committed

/-- A move toward the target begins when the lane is RUNNING, the gate free, the paddle not on the target side and no step in
progress (R46). -/
def State.tryMove (i : LaneId) (s : State) : State :=
  let l := s.lane i
  match targetOf l.travel with
  | some side =>
    if l.state = .running ∧ ¬ l.gateOccupied ∧ l.diverter.step.isNone
        ∧ l.diverter.position ≠ sidePosition (s.laneSettings i).throwSteps side then s.beginStep i side
    else s
  | none => s

/-- A running-service step completes: the position moves, and the next step begins if it is needed (R39, R46). -/
def State.runningStep (i : LaneId) (toward : Side) (s : State) : State :=
  (s.modDiverter i fun v => { v with position := stepPosition v.position toward, step := none }).tryMove i

/-! ### Gate arrival (R47, R48) -/

/-- A record whose gate-arrival timer is armed (R44). -/
def Passage.arrivalArmed (p : Passage) : Bool := p.gateArrival.isSome && !p.committed

/-- The record with a lane sequence number. -/
def findSeq (seq : Nat) (ps : List Passage) : Option Passage := ps.find? fun p => p.seq = seq && !p.committed

/-- A list without the uncommitted record of a sequence number. -/
def dropSeq (seq : Nat) (ps : List Passage) : List Passage := ps.eraseP fun p => p.seq = seq && !p.committed

/-- A travel queue with a record marked committed (R47). -/
def commitSeq (seq : Nat) (ps : List Passage) : List Passage :=
  modifyFirst (fun p => p.seq = seq && !p.committed) (fun p => { p with committed := true }) ps

/-- The docket of a lane counts a met record: an ACCEPT record into its run, a REFUSE record as refused (R47, R80, R81). -/
def Docket.count (p : Passage) (d : Docket) : Docket :=
  match p.disposition with
  | some (.refuse _) => { d with refused := countUp d.refused }
  | _ => match p.entry with
    | some n => d.commit n
    | none => d

/-- A met record is committed: it stays in the queue, it is counted, and an ACCEPT record sets COMMIT (R47). -/
def State.commitRecord (i : LaneId) (p : Passage) (s : State) : State :=
  let t := (s.modLane i fun l => { l with travel := commitSeq p.seq l.travel }).modDocket i (Docket.count p)
  if p.disposition.map Disposition.side = some .accept then t.raiseLane i fun f => { f with commit := true } else t

/-- A record that is not met is removed, its room released, the misrouted count raised, MISROUTED set, and LATE_DIVERT handed
to lane control (R48). -/
def State.misroute (i : LaneId) (p : Passage) (s : State) : State :=
  let t := (s.modLane i fun l => { l with span := dropSeq p.seq l.span, travel := dropSeq p.seq l.travel }).modDocket i
    fun d => { d.releaseRecord p with misrouted := countUp d.misrouted }
  (t.raiseLane i fun f => { f with misrouted := true }).laneFault i .lateDivert

/-- A record of the travel queue meets the paddle at rest on its side (R47). -/
def State.met (s : State) (i : LaneId) (p : Passage) : Bool :=
  match p.disposition with
  | some d => (s.lane i).diverter.atRest (s.laneSettings i).throwSteps d.side
  | none => false

/-- A gate-arrival timer expires: the record of the travel queue is committed when it is met, misrouted otherwise; a record
still in the span list is misrouted (R47, R48). -/
def State.arrive (i : LaneId) (seq : Nat) (s : State) : State :=
  match findSeq seq (s.lane i).travel with
  | some p => if s.met i p then s.commitRecord i p else s.misroute i p
  | none => match findSeq seq (s.lane i).span with
    | some p => s.misroute i p
    | none => s

/-- A step in progress completes, homing or in running service (R39, R41). -/
def State.completeStep (i : LaneId) (s : State) : State :=
  match (s.lane i).diverter.step, (s.lane i).state with
  | some _, .homing => s.homingStep i
  | some m, .running => s.runningStep i m.toward
  | _, _ => s

/-! ### Gate clear (R50) -/

/-- A committed record's gate-clear timer expires: it leaves the queue, a move may begin, and a CLOSING docket settles when
both lists are empty (R50). -/
def State.clearGate (i : LaneId) (seq : Nat) (s : State) : State :=
  ((s.modLane i fun l => { l with travel := l.travel.eraseP fun p => p.seq = seq && p.committed }).tryMove
    i).settleIfDrained i

/-- The committed record whose gate-clear timer a GATE_CLEAR names. -/
def findCommitted (seq : Nat) (ps : List Passage) : Option Passage := ps.find? fun p => p.seq = seq && p.committed

/-- The uncommitted record, in either list, whose gate-arrival timer a GATE_ARRIVAL names (R44). -/
def Lane.awaitingArrival (l : Lane) (seq : Nat) : Option Passage :=
  ((findSeq seq l.travel).orElse fun _ => findSeq seq l.span).filter Passage.arrivalArmed

end Sys2Proof.Machine
end

