-- ==== Sys2Proof/Machine/Sensing.lean ====
section
/-! DEFINITION. The lane front end (chapter 1): accepted edges, the passage record and its measurement, the damage button, the
tag port; and the event at B_off that classifies a record (chapter 2) and queues it (chapter 3). -/

namespace Sys2Proof.Machine

/-! ### Passage records (R8 to R13) -/

/-- A passage record as A_on makes it (R8). -/
def Passage.new (seq : Nat) (t : Tick) : Passage where
  seq := seq
  tAOn := t
  tAOff := none
  tBOn := none
  tBOff := none
  length := none
  speed := none
  tag := none
  necks := 0
  damaged := false
  unsteady := none
  disposition := none
  gateArrival := none
  gateClear := none
  committed := false
  entry := none

/-- B is on and not yet off (R12, R13). -/
def Passage.atB (p : Passage) : Bool := p.tBOn.isSome && p.tBOff.isNone

/-- The lane sequence counter after a record (R8). -/
def nextSeqOf (n : Nat) : Nat := if n < 65535 then n + 1 else 0

/-! ### Measurement (R14 to R17) -/

/-- The gate offset, bounded by 2^31 - 1 (R14). -/
def gateOffset (travel dAB dBG : Nat) : Nat := min (travel * dBG / dAB) 2147483647

/-- Whether a travel lies in the valid speed range (R14). -/
def travelValid (travel dAB : Nat) : Bool := dAB * 2 ≤ travel && travel ≤ dAB * 80

/-- The measurement at B_on (R14). -/
def Passage.measureBOn (g : LaneSettings) (t : Tick) (p : Passage) : Passage :=
  let travel := Tick.since t p.tAOn
  { p with
    tBOn := some t
    unsteady := if travelValid travel g.dAB then p.unsteady else some .speed
    gateArrival := some (t + BitVec.ofNat 32 (gateOffset travel g.dAB g.dBG)) }

/-- The raw length, `occA * D_AB / travel` rounded to the nearest millimetre, halves up (R15). -/
def rawLength (occA dAB travel : Nat) : Nat := (2 * occA * dAB + travel) / (2 * travel)

/-- The length: raw length plus trim, clamped to 0 to 4095 (R15). -/
def trimmedLength (raw : Nat) (trim : Int) : Nat := min ((raw : Int) + trim).toNat 4095

/-- The steadiness test (R16). -/
def unsteadyBy (occA occB : Nat) : Bool := 8 * (max occA occB - min occA occB) > occA

/-- The measurement at the B_off of a record that has its tA_off, `aOff` (R15 to R17). -/
def Passage.measureBOff (g : LaneSettings) (aOff bOn t : Tick) (p : Passage) : Passage :=
  let occA := Tick.since aOff p.tAOn
  let occB := Tick.since t bOn
  let travel := max 1 (Tick.since bOn p.tAOn)
  { p with
    tBOff := some t
    length := some (trimmedLength (rawLength occA g.dAB travel) g.trim)
    speed := some (g.dAB * 4000 / travel)
    unsteady := match p.unsteady with
      | some u => some u
      | none => if unsteadyBy occA occB then some .unsteady else none
    gateClear := p.gateArrival.map fun a => a + BitVec.ofNat 32 occA }

/-! ### Classification and the travel queue (R17, R30, R35 to R37, R44) -/

/-- Step 5: the reservation check of an ACCEPT key against the lane's docket: the docket after it and the entry the record
belongs to (R35, R79). -/
def reserveKey (docket : Option Docket) (k : RunKey) : Option (Docket × Nat) := docket.bind fun d => d.reserve k

/-- A record accepted under a key joins the travel queue with its place taken (R36). -/
def State.queueAccepted (i : LaneId) (p : Passage) (k : RunKey) (d : Docket) (entry : Nat) (s : State) : State :=
  s.modLane i fun l => { l with
    docket := some d
    travel := l.travel ++ [{ p with disposition := some (.accept k.type k.condition k.bottles), entry := some entry }] }

/-- A record refused joins the travel queue; REFUSED and the last-refuse-reason are set, and DOCKET_FULL for a refusal at
step 5 (R37). -/
def State.queueRefused (i : LaneId) (p : Passage) (r : RefuseReason) (s : State) : State :=
  let t := s.modLane i fun l => { l with
    travel := l.travel ++ [{ p with disposition := some (.refuse r) }], lastRefuse := some r }
  t.raiseLane i fun f => { f with refused := true, docketFull := f.docketFull || r = .docketFull }

/-- A finished record is classified and joins the end of the travel queue (R17, R30). -/
def State.classify (i : LaneId) (p : Passage) (s : State) : State :=
  match classifyKey s.types (s.lane i).docket p with
  | .error r => s.queueRefused i p r
  | .ok k => match reserveKey (s.lane i).docket k with
    | some (d, entry) => s.queueAccepted i p k d entry
    | none => s.queueRefused i p .docketFull

/-! ### Accepted edges (R2, R9 to R13, R18) -/

/-- Whether edges of the lane go to measurement (R2). -/
def State.measures (s : State) (i : LaneId) : Bool := (s.lane i).state = .running

/-- A_on taken for measurement (R9). -/
def State.measureAOn (i : LaneId) (s : State) : State :=
  if (s.lane i).span.length < Config.spanMax then
    (s.modLane i fun l => { l with
      span := l.span ++ [Passage.new l.nextSeq s.tick], nextSeq := nextSeqOf l.nextSeq }).laneAwake i
  else s.laneFault i .crowded

/-- A_off taken for measurement: the newest record whose A is on and not yet off takes it (R10). -/
def State.measureAOff (i : LaneId) (s : State) : State :=
  s.modLane i fun l => { l with
    span := modifyLast (fun p => p.tAOff.isNone) (fun p => { p with tAOff := some s.tick }) l.span }

/-- B_on taken for measurement: the oldest record without tB_on takes it, or it is STRAY_AT_B (R11, R14). -/
def State.measureBOn (i : LaneId) (s : State) : State :=
  if (s.lane i).span.any fun p => p.tBOn.isNone then
    s.modLane i fun l => { l with
      span := modifyFirst (fun p => p.tBOn.isNone) (Passage.measureBOn (s.laneSettings i) s.tick) l.span }
  else s.laneFault i .strayAtB

/-- A finished record goes on to classification and the travel queue; with 4 records there it stays, finished, in the span
list and the lane is CROWDED (R17). -/
def State.finishRecord (i : LaneId) (p : Passage) (s : State) : State :=
  if (s.lane i).travel.length < Config.travelMax then
    ((s.modLane i fun l => { l with span := l.span.eraseP Passage.atB }).classify i p).tryMove i
  else (s.modLane i fun l => { l with span := modifyFirst Passage.atB (fun _ => p) l.span }).laneFault i .crowded

/-- B_off taken for measurement (R12). -/
def State.measureBOff (i : LaneId) (s : State) : State :=
  match (s.lane i).span.find? Passage.atB with
  | none => s
  | some p => match p.tAOff, p.tBOn with
    | some aOff, some bOn => s.finishRecord i (p.measureBOff (s.laneSettings i) aOff bOn s.tick)
    | _, _ => s.laneFault i .strayAtB

/-- A neck edge taken for measurement (R13). -/
def State.measureNeck (i : LaneId) (s : State) : State :=
  s.modLane i fun l => { l with
    span := modifyFirst Passage.atB (fun p => { p with necks := satAdd 255 1 p.necks }) l.span }

/-- An accepted edge of beam A: A_on when `on`, else A_off. Its jam timer starts in RUNNING or stops, and a RUNNING lane
measures (R2, R18). The accepted level has changed already. -/
def State.edgeA (i : LaneId) (on : Bool) (s : State) : State :=
  let jam := if on && s.measures i then some s.jamDue else none
  let t := s.modLane i fun l => { l with jamA := jam }
  if s.measures i then (if on then t.measureAOn i else t.measureAOff i) else t

/-- An accepted edge of beam B: B_on when `on`, else B_off (R2, R18). -/
def State.edgeB (i : LaneId) (on : Bool) (s : State) : State :=
  let jam := if on && s.measures i then some s.jamDue else none
  let t := s.modLane i fun l => { l with jamB := jam }
  if s.measures i then (if on then t.measureBOn i else t.measureBOff i) else t

/-- A neck edge (R2, R13). -/
def State.edgeNeck (i : LaneId) (s : State) : State := if s.measures i then s.measureNeck i else s

/-- A jam timer reaches JAM_TIME (R18). -/
def State.jamExpires (i : LaneId) (beam : Beam) (s : State) : State :=
  (s.modLane i fun l => match beam with
    | .a => { l with jamA := none }
    | .b => { l with jamB := none }).laneFault i .jam

/-! ### The damage button (R4) -/

/-- A press marks the oldest record of the span list, or sets DAMAGE_IGNORED (R4). -/
def State.press (i : LaneId) (s : State) : State :=
  match (s.lane i).span with
  | [] => s.raiseLane i fun f => { f with damageIgnored := true }
  | p :: ps => s.modLane i fun l => { l with span := { p with damaged := true } :: ps }

/-! ### The tag port (R5 to R7) -/

/-- A complete report with a good check and a readable code is attached to the oldest untagged record, or sets TAG_IGNORED
(R7). -/
def State.attachTag (i : LaneId) (g : Tag) (s : State) : State :=
  if (s.lane i).span.any fun p => p.tag.isNone then
    s.modLane i fun l => { l with span := modifyFirst (fun p => p.tag.isNone) (fun p => { p with tag := some g }) l.span }
  else s.raiseLane i fun f => { f with tagIgnored := true }

/-- A complete report: discarded when its four bytes do not sum to 0 or its type code is 0 (R6). -/
def State.tagReport (i : LaneId) (owner lo hi check : Byte) (s : State) : State :=
  if owner + lo + hi + check = 0 ∧ word2 lo hi ≠ 0 then s.attachTag i ⟨owner.toNat, word2 lo hi⟩ else s

/-- The bytes a report has when the next one is taken: a gap of more than 5 ms discards them (R6). -/
def TagReceiver.kept (r : TagReceiver) (start : Tick) : List Byte :=
  if Config.tagGapTicks < Tick.since start r.lastStop then [] else r.bytes

/-- The receiver after a byte of a report that is not its fourth. -/
def State.setTagBytes (i : LaneId) (bytes : List Byte) (t : Tick) (s : State) : State :=
  s.modLane i fun l => { l with tagRx := ⟨bytes, t, false⟩ }

/-- A byte taken into report assembly (R6). -/
def State.assembleTag (i : LaneId) (kept : List Byte) (b : Byte) (t : Tick) (s : State) : State :=
  match kept with
  | [owner, lo, hi] => (s.setTagBytes i [] t).tagReport i owner lo hi b
  | _ => s.setTagBytes i (kept ++ [b]) t

/-- A character on TAG_RX, begun at `start`, its stop bit taken at `t` (R5, R6). -/
def State.tagCharacter (i : LaneId) (start t : Tick) (c : Cells) (s : State) : State :=
  match readCharacter c with
  | .dropped => s.modLane i fun l => { l with tagRx := { l.tagRx with waitHigh := false } }
  | .framingError => s.modLane i fun l => { l with tagRx := ⟨[], t, true⟩ }
  | .byte b => s.assembleTag i ((s.lane i).tagRx.kept start) b t

/-! ### Edge events as commands tell them (log entries 7, 8 and 10) -/

/-- Beam A's accepted level becomes `on`: an edge when it was the other level (R1). -/
def State.beamA (i : LaneId) (on : Bool) (s : State) : State :=
  if (s.lane i).beamA.level = on then s
  else (s.modLane i fun l => { l with beamA := Line.steady on }).edgeA i on

/-- Beam B's accepted level becomes `on`: an edge when it was the other level (R1). -/
def State.beamB (i : LaneId) (on : Bool) (s : State) : State :=
  if (s.lane i).beamB.level = on then s
  else (s.modLane i fun l => { l with beamB := Line.steady on }).edgeB i on

/-- The neck beam's change back to clear: tracked as a level, with no further effect (R1). -/
def State.neckClear (i : LaneId) (s : State) : State := s.modLane i fun l => { l with neck := Line.steady false }

/-- A neck edge: a change of the neck beam from clear to blocked (R1). The table has no row for the change back to clear, so the
edge tells that the beam had become clear when it is still tracked as blocked; after the edge the beam is blocked, and idle
ticks track it back to clear (DESIGN CHOICE, log entry 8). -/
def State.neckBlocked (i : LaneId) (s : State) : State :=
  ((s.neckClear i).modLane i fun l => { l with neck := Line.passing true }).edgeNeck i

/-- The debounced DAMAGE level becomes pressed or released: a press when it was released (R3). -/
def State.damageLevel (i : LaneId) (pressed : Bool) (s : State) : State :=
  if (s.lane i).damage.pressed = pressed then s
  else
    let t := s.modLane i fun l => { l with damage := DamageInput.steady pressed }
    if pressed then t.press i else t

end Sys2Proof.Machine
end

