-- ==== Sys2Proof/Machine/LaneRequests.lean ====
section
/-! DEFINITION. The requests that change a lane and its docket: DOCKET_OPEN, DOCKET_CLOSE, DOCKET_CANCEL, LANE_HOLD,
LANE_RELEASE, LANE_TRIM, LANE_READ. -/

namespace Sys2Proof.Machine

/-- Whether beam A or beam B is blocked at its accepted level (R2). -/
def Lane.beamsBlocked (l : Lane) : Bool := l.beamA.level || l.beamB.level

/-! ### Opening (R73, R75, R76) -/

/-- The number a new docket takes: the counter's value, passing over the numbers of dockets that exist (R73). -/
def State.docketNumber (s : State) : Nat :=
  freeNumber (s.dockets.map Docket.number) s.dockets.length s.part.nextDocket

/-- A docket as it is opened (R76). -/
def Docket.new (number account : Nat) (m : Method) (day : Nat) : Docket where
  number := number
  account := account
  method := m
  state := .opened
  openedDay := day
  closeCause := none
  runs := []
  plan := []
  reserved := 0
  accepted := 0
  refused := 0
  misrouted := 0
  voided := 0
  nextEntry := 0

/-- A docket of a method that is paid at a bay is a commitment (R131). -/
def State.commitFor (m : Method) (s : State) : State := if m = .account then s else s.addCommitment

/-- An accepted DOCKET_OPEN: the docket is created, its commitment counted, and the lane enters HOMING (R56, R76). -/
def State.openDocket (i : LaneId) (account : Nat) (m : Method) (s : State) : State :=
  let n := s.docketNumber
  let numbered : State := { s with part := { s.part with nextDocket := nextNumber n } }
  let created := numbered.modLane i fun l => { l with docket := some (Docket.new n account m s.part.day) }
  (created.commitFor m).startHoming i

/-- Steps 5 to 8 of R75 for an account slot: the status that refuses, if any. -/
def openRefusal (slot : Option Account) (m : Method) (p : Pressure) : Option Status :=
  match slot with
  | none => some .notFound
  | some a =>
    if a.suspended then some .suspended
    else match m.pay? with
      | none => none
      | some pay => if !a.permits pay then some .notPermitted else if p = .high then some .payoutBusy else none

/-- DOCKET_OPEN (R75). -/
def decideDocketOpen (lane account method : Nat) (s : State) : Decided :=
  if s.part.state ≠ .opened then refuse s .badState
  else match laneOf lane, Method.ofCode method with
    | some i, some m =>
      if ¬ account < 64 then refuse s .range
      else if (s.lane i).docket.isSome then refuse s .hasDocket
      else if (s.lane i).state ≠ .off ∨ ¬ (s.laneSettings i).enable then refuse s .badState
      else match openRefusal (s.account account) m s.queue.pressure with
        | some st => refuse s st
        | none =>
          if (s.lane i).beamsBlocked then refuse s .beamsBlocked
          else answerOk (s.openDocket i account m) (le2 s.docketNumber)
    | _, _ => refuse s .range

/-! ### Closing and cancelling (R88, R92) -/

/-- DOCKET_CLOSE (R88): SETTLED or CLOSING with the docket number, the code of the docket state in 1 byte (DESIGN CHOICE, log entry
46). -/
def decideDocketClose (lane : Nat) (s : State) : Decided :=
  match laneOf lane with
  | none => refuse s .range
  | some i => match (s.lane i).docket with
    | none => refuse s .noDocket
    | some d =>
      if d.state = .closing then (s, ⟨.badState, b1 DocketState.closing.code ++ le2 d.number⟩)
      else answerOk (s.closeDocket i .request)
        (b1 (if (s.lane i).clear then settledCode else DocketState.closing.code) ++ le2 d.number)

/-- The hold of a cancel: entry to HELD with CANCELLED, or CANCELLED added on a held lane (R92, step 1). -/
def State.cancelHold (i : LaneId) (s : State) : State :=
  match (s.lane i).state with
  | .homing | .running => s.enterHeld i .cancelled
  | .off | .held => s.addHold i .cancelled

/-- A docket is cancelled: the lane held, the docket discarded, its commitment released (R92). -/
def State.cancelDocket (i : LaneId) (d : Docket) (s : State) : State :=
  let gone := (s.cancelHold i).modLane i fun l => { l with docket := none }
  if d.method = .account then gone else gone.dropCommitment

/-- DOCKET_CANCEL (R92). -/
def decideDocketCancel (lane : Nat) (s : State) : Decided :=
  match laneOf lane with
  | none => refuse s .range
  | some i => match (s.lane i).docket with
    | none => refuse s .noDocket
    | some d => answerOk (s.cancelDocket i d) (le2 d.number)

/-! ### Holding and releasing (R62, R63) -/

/-- The reply of LANE_HOLD: lane state and hold-reason set (R62), the code of the state in 1 byte (DESIGN CHOICE, log entry 46). -/
def heldReply (i : LaneId) (s : State) : Decided := answerOk s (b1 (s.lane i).state.code ++ holdByte (s.lane i).holds)

/-- LANE_HOLD (R62). -/
def decideLaneHold (lane : Nat) (s : State) : Decided :=
  match laneOf lane with
  | none => refuse s .range
  | some i => match (s.lane i).state with
    | .off => refuse s .noDocket
    | .homing | .running => heldReply i (s.enterHeld i .requested)
    | .held => heldReply i (s.addHold i .requested)

/-- An accepted LANE_RELEASE: the set emptied, RELEASED set, and the lane to HOMING with a docket or OFF without (R63). -/
def State.release (i : LaneId) (s : State) : State :=
  let t := (s.modLane i fun l => { l with holds := HoldSet.empty }).raiseLane i fun f => { f with released := true }
  if (s.lane i).docket.isSome then t.startHoming i else t.modLane i fun l => { l with state := .off }

/-- LANE_RELEASE (R63); the code of the lane state in its reply has 1 byte (DESIGN CHOICE, log entry 46). -/
def decideLaneRelease (lane : Nat) (s : State) : Decided :=
  match laneOf lane with
  | none => refuse s .range
  | some i =>
    if (s.lane i).state ≠ .held then refuse s .badState
    else if (s.lane i).beamsBlocked then refuse s .beamsBlocked
    else answerOk (s.release i) (b1 ((s.release i).lane i).state.code)

/-! ### Trim and reading (R20, R69) -/

/-- A trim clamped to -63 to +63 (R20). -/
def clampTrim (x : Int) : Int := max (-63) (min 63 x)

/-- LANE_TRIM (R20). -/
def decideLaneTrim (lane : Nat) (steps : Int) (s : State) : Decided :=
  match laneOf lane with
  | none => refuse s .range
  | some i =>
    if steps < -63 ∨ 63 < steps then refuse s .range
    else if s.part.save.isSome then refuse s .busy
    else
      let trim := clampTrim ((s.laneSettings i).trim + steps)
      answerOk { s with settings := s.settings.modLane i fun g => { g with trim := trim } } (signed1 trim)

/-- LANE_READ (R69). -/
def decideLaneRead (lane : Nat) (s : State) : Decided :=
  match laneOf lane with
  | none => refuse s .range
  | some i => answerOk s (laneBytes s.tick (s.laneSettings i) (s.lane i))

end Sys2Proof.Machine
end

