-- ==== Sys2Proof/Machine/Store.lean ====
section
/-! DEFINITION. The settings store and the part (chapter 11): the load, the yard day, configuration writes, saving, and the
reset of every block. -/

namespace Sys2Proof.Machine

/-! ### Image areas (R177, R182) -/

/-- An area is valid when its check is correct and its format revision is one this part reads (R177). -/
def StoreArea.valid (a : StoreArea) : Bool := a.checkGood && Config.readsRevision a.revision

/-- An area by name. -/
def PartUnit.area (p : PartUnit) : AreaId → StoreArea
  | .first => p.area1
  | .second => p.area2

/-- An area written. -/
def PartUnit.setArea (p : PartUnit) (x : AreaId) (a : StoreArea) : PartUnit :=
  match x with
  | .first => { p with area1 := a }
  | .second => { p with area2 := a }

/-- The area to load when both are valid: the one whose generation is one above the other's; when neither is, the higher, and
the first when they are equal (R177). -/
def newerArea (g1 g2 : Byte) : AreaId :=
  if g1 = g2 + 1 then .first
  else if g2 = g1 + 1 then .second
  else if g1.toNat < g2.toNat then .second
  else .first

/-- The area the load selects (R177). -/
def PartUnit.selected (p : PartUnit) : Option AreaId :=
  match p.area1.valid, p.area2.valid with
  | true, true => some (newerArea p.area1.generation p.area2.generation)
  | true, false => some .first
  | false, true => some .second
  | false, false => none

/-- The settings a load gives (R177, R180). -/
def PartUnit.loadedSettings (p : PartUnit) : Settings :=
  match p.selected with
  | some x => (p.area x).settings
  | none => Settings.default

/-- The type table a load gives (R29, R177). -/
def PartUnit.loadedTypes (p : PartUnit) : Vector TypeEntry 24 :=
  match p.selected with
  | some x => (p.area x).types
  | none => Vector.replicate 24 TypeEntry.default

/-- A bay in OFF with its enable on enters POWERING on the first tick in CLOSED (R159). -/
def State.autoPowerUp (b : BayId) (s : State) : State :=
  if (s.bay b).state = .off ∧ (s.bay b).enable then s.enterPowering b else s

/-- The store read ends: the image or the defaults are loaded, the part enters CLOSED, STARTED is set (R177, R159). -/
def State.finishStoreRead (s : State) : State :=
  let loaded : State := { s with
    types := s.part.loadedTypes
    settings := s.part.loadedSettings
    part := { s.part with state := .closed, storeValid := s.part.selected.isSome, current := s.part.selected } }
  ((loaded.raisePart fun f => { f with started := true }).autoPowerUp 0).autoPowerUp 1

/-- The area a save writes: the one that is not current, or the first (R182). -/
def PartUnit.saveTarget (p : PartUnit) : AreaId :=
  match p.current with
  | some .first => .second
  | some .second => .first
  | none => .first

/-- The generation a save carries: the current image's plus one modulo 256, or 0 when none is current (R182). -/
def PartUnit.saveGeneration (p : PartUnit) : Byte :=
  match p.current with
  | some x => (p.area x).generation + 1
  | none => 0

/-- The image a save writes: the working table and configuration as they stand (R182). -/
def State.imageToSave (s : State) : StoreArea := ⟨true, Config.formatRevision, s.part.saveGeneration, s.types, s.settings⟩

/-- CONFIG_SAVE (R182). -/
def decideConfigSave (s : State) : Decided :=
  if s.part.save.isSome then refuse s .busy
  else ({ s with part := { s.part with save := some ⟨s.part.saveTarget, s.imageToSave⟩ } }, ⟨.accepted, []⟩)

/-- A save completes: a good read-back makes the written area current and sets SAVE_DONE; otherwise that area is left with an
incorrect check and SAVE_FAILED is set (R182). -/
def State.finishSave (good : Bool) (s : State) : State :=
  match s.part.save with
  | none => s
  | some v =>
    if good then
      State.raisePart (fun f => { f with saveDone := true })
        { s with part := { s.part.setArea v.target v.image with save := none, current := some v.target } }
    else
      State.raisePart (fun f => { f with saveFailed := true })
        { s with part := { s.part.setArea v.target { v.image with checkGood := false } with save := none } }

/-- A save that a reset cuts off leaves the area it was writing with an incorrect check (R182). -/
def PartUnit.cutSave (p : PartUnit) : PartUnit :=
  match p.save with
  | none => p
  | some v => { p.setArea v.target { v.image with checkGood := false } with save := none }

/-! ### Reset (R183 and each chapter's state after reset) -/

/-- A lane after reset: filters filled with the present samples (R22, R54, R71, R96), that of DIV_HOME being `home`. That the two-of-three filter of DAMAGE is
filled from its line too, and the debounced level taken from the filter so filled, is the model's choice (DESIGN CHOICE, log
entry 40). -/
def Lane.reset (home : Bool) (l : Lane) : Lane := Lane.afterReset l.beamA.pin l.beamB.pin l.neck.pin l.damage.line.pin home

/-- The sample of lane `i`'s DIV_HOME that a reset fills its filter with: the pin where it has shown a level on the present tick,
otherwise free (R54; DESIGN CHOICE, log entry 45). -/
def State.presentHome (s : State) (i : LaneId) : Bool :=
  if (s.lane i).diverter.homeTick = s.tick then (s.lane i).diverter.home.pin else Config.divHome i (s.port.resets + 1) 0

/-- The rate the straps give (R160). -/
def rateOf (rate1 rate0 : Bool) : Rate :=
  match rate1, rate0 with
  | false, false => .r9600
  | false, true => .r19200
  | true, false => .r57600
  | true, true => .r115200

/-- The part after reset: STARTING, the store untouched but for a save cut off (R177, R182). -/
def PartUnit.reset (p : PartUnit) : PartUnit :=
  { p.cutSave with
    state := .starting, day := 0, voucherSeq := some 1, nextDocket := 1, storeValid := false, current := none
    flags := PartFlags.none }

/-- The port after reset: the RATE pins are read, and the line's rate is what they give (R160, R171). Their levels are free at
each reset (log entry 38). -/
def Port.strapped (p : Port) : Port :=
  let pins := Config.ratePins p.resets
  Port.reset pins.1 pins.2 (rateOf pins.1 pins.2) (p.resets + 1)

/-- Every block takes its state after reset; the input lines, the store and the queue of commands stay (R22, R54, R71, R96,
R111, R127, R142, R159, R171, R177, R183). -/
def State.resetPart (s : State) : State where
  tick := 0
  lanes := Vector.ofFn fun i => (s.lane i).reset (s.presentHome i)
  bays := Vector.ofFn fun b => (s.bay b).reset (s.part.cutSave.loadedSettings.autopower[b])
  types := Vector.replicate 24 TypeEntry.default
  settings := Settings.default
  accounts := Vector.replicate 64 none
  settlements := []
  queue := PayQueue.reset
  port := s.port.strapped
  part := s.part.reset
  pending := s.pending

/-- Whether any docket exists or any order is pending (R179, R183). -/
def State.itemsPending (s : State) : Bool := s.dockets ≠ [] || s.queue.orders ≠ []

/-- PART_RESET: accepted, it waits for the last byte of its reply (R183). -/
def decidePartReset (s : State) : Decided :=
  if s.itemsPending then refuse s .pendingItems
  else if s.part.save.isSome then refuse s .busy
  else answerOk { s with port := { s.port with resetPending := true } } []

/-! ### The yard day (R178, R179) -/

/-- DAY_OPEN (R178). -/
def decideDayOpen (day : Nat) (s : State) : Decided :=
  if s.part.state ≠ .closed then refuse s .badState
  else if day = 0 then refuse s .range
  else answerOk { s with part := { s.part with day := day, voucherSeq := some 1, state := .opened } } (le2 day)

/-- Every slot's paid today becomes 0 (R110). -/
def clearPaidToday (accounts : Vector (Option Account) 64) : Vector (Option Account) 64 :=
  accounts.map fun a => a.map fun a => { a with paidToday := 0 }

/-- DAY_CLOSE (R179). -/
def decideDayClose (s : State) : Decided :=
  if s.part.state ≠ .opened then refuse s .badState
  else if s.itemsPending then refuse s .pendingItems
  else answerOk { s with accounts := clearPaidToday s.accounts, part := { s.part with state := .closed } } []

/-! ### Configuration (R180, R181) -/

/-- The position of the first item that is bad by itself or repeats an earlier one (R181, step 1; log entry 17). -/
def badItem (seen : List (Nat × Nat)) (k : Nat) : List ConfigItem → Option Nat
  | [] => none
  | c :: cs =>
    if (settingOf c).isNone || decide ((c.code, c.index) ∈ seen) then some k
    else badItem ((c.code, c.index) :: seen) (k + 1) cs

/-- The position of the last field that is a pressure mark; 0 when there is none (R181, step 2). -/
def lastMark (xs : List Setting) : Nat :=
  xs.length - 1 - ((xs.reverse.findIdx? Setting.isMark).getD (xs.length - 1))

/-- Whether a CASH order is pending or a CASH docket exists (R134). -/
def State.cashInUse (s : State) : Bool :=
  s.queue.orders.any (fun o => o.method = .cash) || s.dockets.any (fun d => d.method = .cash)

/-- Whether a field is guarded by a lane that is not OFF or by cash business (R52, R134, R181 step 3). -/
def State.guards (s : State) : Setting → Bool
  | .cashUnit _ => s.cashInUse
  | x => match x.guardedLane with
    | some i => (s.lane i).state ≠ .off
    | none => false

/-- A drive mode written takes the phase index modulo the new pattern length (R52). -/
def Setting.rephase (x : Setting) (s : State) : State :=
  match x with
  | .mode i m => s.modDiverter i fun v => { v with phaseIndex := v.phaseIndex % m.patternLength }
  | _ => s

/-- A field written, with what the write does to the drive (R52, R180). -/
def State.writeSetting (s : State) (x : Setting) : State := x.rephase { s with settings := x.apply s.settings }

/-- Every item is written on one event, and the pressure re-evaluated once when a mark was written (R132, R181). -/
def State.writeSettings (xs : List Setting) (s : State) : State :=
  let written := xs.foldl State.writeSetting s
  if xs.any Setting.isMark then written.evaluatePressure else written

/-- A refused CONFIG_WRITE carries a position after its header (R181). -/
def refuseAt (s : State) (st : Status) (k : Nat) : Decided := (s, ⟨st, b1 k⟩)

/-- CONFIG_WRITE (R181). -/
def decideConfigWrite (items : List ConfigItem) (s : State) : Decided :=
  match badItem [] 0 items with
  | some k => refuseAt s .range k
  | none =>
    let xs := items.filterMap settingOf
    let after := xs.foldl (fun g x => x.apply g) s.settings
    if after.highMark ≤ after.lowMark then refuseAt s .range (lastMark xs)
    else match xs.findIdx? s.guards with
      | some k => refuseAt s .inUse k
      | none =>
        if s.part.save.isSome then (s, ⟨.busy, [Config.busyPosition items.length]⟩)
        else answerOk (s.writeSettings xs) []

/-- CONFIG_READ (R180). -/
def decideConfigRead (s : State) : Decided := answerOk s (configBytes s.settings)

/-! ### Identity and state (R169) -/

/-- IDENT (R169). -/
def decideIdent (s : State) : Decided := answerOk s (identBytes s)

/-- STATE (R169). -/
def decideState (s : State) : Decided := answerOk s (stateBytes s)

end Sys2Proof.Machine
end

