-- ==== Sys2Proof/Machine/PortUnit.lean ====
section
/-! DEFINITION. The message port (chapter 10): notices, the transmitter's choice, dispatch of requests, replies and REJECT,
reception on RXD. -/

namespace Sys2Proof.Machine

/-! ### Notices (R166 to R168) -/

/-- The body of a source's notice, from its source as it stands (R168, R175). -/
def State.noticeBody (s : State) : Source → List Byte
  | .lane i => laneNotice i (s.lane i)
  | .bay b => bayNotice b s.queue.orders (s.bay b)
  | .queue => queueNotice s.queue
  | .part => partNotice s.part

/-- A lane's notice memories after its notice is built (R37, R70, R95, R168). -/
def Lane.clearNotice (l : Lane) : Lane :=
  { l with flags := LaneFlags.none, lastRefuse := none, voidCount := 0, lastSettled := none }

/-- Building a notice clears the source's event flags and per-notice memories (R166, R168). -/
def State.clearSource (s : State) : Source → State
  | .lane i => s.modLane i Lane.clearNotice
  | .bay b => s.modBay b fun y => { y with flags := BayFlags.none }
  | .queue => { s with queue := { s.queue with flags := QueueFlags.none } }
  | .part => { s with part := { s.part with flags := PartFlags.none } }

/-- A notice for the source begins: it is built, its source cleared and removed from the set (R166). -/
def State.beginNotice (x : Source) (s : State) : State :=
  let t := s.clearSource x
  { t with port := { t.port with
      sending := .notice (frameOf (s.noticeBody x)), attention := t.port.attention.filter fun y => y ≠ x } }

/-! ### Replies and the transmitter (R165, R166) -/

/-- FLAGS at the moment a reply's first byte is sent: ATTN and OVERRUN (R165). -/
def Port.flagsByte (p : Port) : Byte := byteOf (bitsByte [!p.attention.isEmpty, p.overrun])

/-- The reply in the slot begins: FLAGS is filled in and OVERRUN cleared (R165). -/
def State.beginReply (r : Reply) (s : State) : State :=
  { s with port := { s.port with
      sending := .reply (frameOf (r.kind :: r.status :: s.port.flagsByte :: r.payload)), overrun := false } }

/-- The transmitter's choice when idle: a reply in the slot first, else a notice for the earliest member (R166). -/
def State.transmit (s : State) : State :=
  match s.port.sending with
  | .idle => match s.port.slot with
    | some r => s.beginReply r
    | none => match s.port.attention with
      | x :: _ => s.beginNotice x
      | [] => s
  | _ => s

/-- The transmitter's choice at the end of a reply: a notice when the set is non-empty (R166). -/
def State.transmitAfterReply (s : State) : State :=
  match s.port.attention with
  | x :: _ => s.beginNotice x
  | [] => s.transmit

/-! ### Dispatch (R164, R170) -/

/-- The requests a part state refuses BAD_STATE (R170). -/
def PartState.takes : PartState → Request → Bool
  | .starting, .ident | .starting, .state => true
  | .starting, _ => false
  | .closed, .docketOpen _ _ _ | .closed, .payCredit _ _ _ | .closed, .dayClose => false
  | .closed, _ => true
  | .opened, .dayOpen _ => false
  | .opened, _ => true

/-- The block that owns a request decides it (R164). -/
def decideRequest (r : Request) (s : State) : Decided :=
  match r with
  | .ident => decideIdent s
  | .state => decideState s
  | .dayOpen day => decideDayOpen day s
  | .dayClose => decideDayClose s
  | .configWrite items => decideConfigWrite items s
  | .configRead => decideConfigRead s
  | .configSave => decideConfigSave s
  | .partReset => decidePartReset s
  | .typeWrite entry => decideTypeWrite entry s
  | .typeRead index => decideTypeRead index s
  | .acctWrite record => decideAcctWrite record s
  | .acctRead index => decideAcctRead index s
  | .acctRange first last => decideAcctRange first last s
  | .acctNext => decideAcctNext s
  | .issue account type count => decideIssue account type count s
  | .docketOpen lane account method => decideDocketOpen lane account method s
  | .docketClose lane => decideDocketClose lane s
  | .docketCancel lane => decideDocketCancel lane s
  | .docketRead lane => decideDocketRead lane s
  | .docketAdjust lane type condition bottles delta => decideDocketAdjust lane type condition bottles delta s
  | .laneHold lane => decideLaneHold lane s
  | .laneRelease lane => decideLaneRelease lane s
  | .laneTrim lane steps => decideLaneTrim lane steps s
  | .laneRead lane => decideLaneRead lane s
  | .settleRead docket line => decideSettleRead docket line s
  | .orderList list first => decideOrderList list first s
  | .orderCancel order => decideOrderCancel order s
  | .payCredit account method amount => decidePayCredit account method amount s
  | .bayPower bay setting => decideBayPower bay setting s
  | .bayRead bay => decideBayRead bay s

/-- A reply takes the slot (R164). -/
def State.fillSlot (r : Reply) (s : State) : State := { s with port := { s.port with slot := some r } }

/-- REJECT: its reason in the STATUS position, then the KIND byte as received (R164). -/
def rejectReply (reason : Byte) (kind : Byte) : Reply := ⟨0x7F, reason, [kind]⟩

/-- The reply to a request: KIND plus 0x80, the status and the payload (R165). -/
def replyTo (kind : Byte) (a : Answer) : Reply := ⟨kind + 0x80, byteOf a.status.code, a.payload⟩

/-- Check 4 of R164, then the owning block; the reply takes the slot. -/
def State.dispatchRequest (r : Request) (s : State) : State :=
  if s.part.state.takes r then
    let d := decideRequest r s
    d.1.fillSlot (replyTo (kindOf r) d.2)
  else s.fillSlot (replyTo (kindOf r) ⟨.badState, []⟩)

/-- A frame is dispatched: the checks of R164 in their order. -/
def State.dispatchFrame (f : Frame) (s : State) : State :=
  let kind := f.body.headD 0
  if f.sumGood then
    match parseRequest kind f.body.tail with
    | .unknownKind => s.fillSlot (rejectReply 2 kind)
    | .badLength => s.fillSlot (rejectReply 3 kind)
    | .request r => s.dispatchRequest r
  else s.fillSlot (rejectReply 1 kind)

/-- The dispatcher takes the waiting frame when the slot is free (R164). -/
def State.dispatchWaiting (s : State) : State :=
  match s.port.waiting, s.port.slot with
  | some f, none => State.dispatchFrame f { s with port := { s.port with waiting := none } }
  | _, _ => s

/-- A completed frame moves to the waiting buffer, or is lost with OVERRUN set when that is full; it is dispatched at once
when the slot is free (R163, R164). -/
def State.frameCompleted (f : Frame) (s : State) : State :=
  match s.port.waiting with
  | some _ => { s with port := { s.port with overrun := true } }
  | none => State.dispatchWaiting { s with port := { s.port with waiting := some f } }

/-- Whether a request's frame has the length its kind requires: only CONFIG_WRITE's item count can fail it (chapter 11,
section 11.3). -/
def Request.lengthGood : Request → Bool
  | .configWrite items => itemCountGood items.length
  | _ => true

/-- A request is handed over by the dispatcher, or rejected BAD_LENGTH (R164). -/
def State.takeRequest (r : Request) (s : State) : State :=
  if Request.lengthGood r then s.dispatchRequest r else s.fillSlot (rejectReply 3 (kindOf r))

/-- The frame of a request completes on RXD, its sum good (log entry 1): with the waiting buffer empty and the slot free it
is dispatched on this event; otherwise it waits, or is lost with OVERRUN set (R163, R164). The receiver hunts after it. -/
def State.request (r : Request) (s : State) : State :=
  let t : State := { s with port := { s.port with rx := s.port.rx.abandon } }
  match s.port.waiting, s.port.slot with
  | none, none => t.takeRequest r
  | _, _ => t.frameCompleted (requestFrame r)

/-! ### RXD (R160, R162, R163) -/

/-- A character on RXD. -/
def State.hostCharacter (start t : Tick) (c : Cells) (s : State) : State :=
  let r := s.port.rx.take start t c
  let s' : State := { s with port := { s.port with rx := r.rx } }
  match r.frame with
  | some f => s'.frameCompleted f
  | none => s'

/-! ### The end of a frame on TXD (R164, R166, R183) -/

/-- The last byte of a reply is sent: the part resets when the reply was an accepted PART_RESET's, otherwise the slot is
free, a waiting frame is dispatched, and the transmitter chooses (R164, R166, R183; log entry 6). -/
def State.replySent (s : State) : State :=
  if s.port.resetPending then s.resetPart
  else (State.dispatchWaiting { s with port := { s.port with sending := .idle, slot := none } }).transmitAfterReply

/-- The last byte of the frame on TXD is sent. -/
def State.frameEnds (s : State) : State :=
  match s.port.sending with
  | .idle => s
  | .reply _ => s.replySent
  | .notice _ => { s with port := { s.port with sending := .idle } }

end Sys2Proof.Machine
end

