-- ==== Sys2Proof/Machine/PartCommands.lean ====
section
/-! DEFINITION. The meanings of the commands of the part and its port: resets, the store, frames and characters on the host
line. Every meaning ends with the transmitter's choice (R166, log entry 5). -/

namespace Sys2Proof.Machine

/-- The event is over: the transmitter, if idle, chooses (R166). -/
def finish (s : State) : Result := .next s.transmit

/-- A timer that is running expires on its tick; one that is not running cannot (log entry 15). -/
def State.expire (due : Option Tick) (f : State → State) (s : State) : State :=
  match due with
  | some d => f (s.reach d)
  | none => s

/-- RESET_N (R183). -/
def execResetN (s : State) : Result := finish s.resetPart

/-- STORE_READ_DONE (R177): only a part that is STARTING reads its store. -/
def execStoreReadDone (s : State) : Result :=
  finish (if s.part.state = .starting then s.finishStoreRead else s)

/-- SAVE_COMPLETE (R182). -/
def execSaveComplete (good : Bool) (s : State) : Result := finish (s.finishSave good)

/-- FRAME_RECEIVED (R163): the CHECK byte of the frame being assembled is taken; with none due, no frame completes. -/
def execFrameReceived (start t : Tick) (cells : Cells) (s : State) : Result :=
  let s := s.at t
  finish (if s.port.rx.awaitsCheck then s.hostCharacter start t cells else s)

/-- RX_GAP_TIMEOUT (R162). -/
def execRxGapTimeout (s : State) : Result :=
  finish (if s.port.rx.buffer.isSome then
      let t := s.reach s.port.rx.gapEnds
      { t with port := { t.port with rx := t.port.rx.abandon } }
    else s)

/-- RX_BYTE (R162). -/
def execRxByte (start t : Tick) (cells : Cells) (s : State) : Result := finish ((s.at t).hostCharacter start t cells)

/-- FRAME_SENT (R166). -/
def execFrameSent (s : State) : Result := finish s.frameEnds

end Sys2Proof.Machine
end

