-- ==== Sys2Proof/Machine/BayCommands.lean ====
section
/-! DEFINITION. The meanings of the events of a payout bay: its seat, its module's lines, its timers and its bay line. -/

namespace Sys2Proof.Machine

/-- The filtered level of a seat contact: 0 is SEAT1_N, 1 is SEAT2_N. -/
def Bay.contact (y : Bay) (contact : Fin 2) : Bool := if contact = 0 then y.seat1.level else y.seat2.level

/-- A seat contact at a new filtered level, the kind pins read on that tick (R143, log entry 9). -/
def Bay.setContact (contact : Fin 2) (closed kind1 kind2 : Bool) (y : Bay) : Bay :=
  { y with
    seat1 := if contact = 0 then ⟨closed, closed, 0⟩ else y.seat1
    seat2 := if contact = 0 then y.seat2 else ⟨closed, closed, 0⟩
    kind1 := Line.steady kind1
    kind2 := Line.steady kind2 }

/-- SEAT_CHANGE (R143, R148). -/
def execSeatChange (bay : BayId) (contact : Fin 2) (closed kind1 kind2 : Bool) (t : Tick) (s : State) : Result :=
  let s := s.at t
  finish (if (s.bay bay).contact contact = closed then s
    else (s.modBay bay (Bay.setContact contact closed kind1 kind2)).followSeats bay (s.bay bay).seated)

/-- The power sequence's timer of a bay in state `st` (R146). -/
def Bay.powerDue (y : Bay) (st : BayState) : Option Tick := if y.state = st then y.powerTimer else none

/-- POWERING_DONE (R146): MOD_READY and MOD_FAULT read `ready` and `fault` at the entry to STARTING. -/
def execPoweringDone (bay : BayId) (ready fault : Bool) (s : State) : Result :=
  finish (s.expire ((s.bay bay).powerDue .powering) fun s =>
    (s.modBay bay fun y => { y with modReady := Line.steady ready, modFault := Line.steady fault }).poweringEnds bay)

/-- NO_READY (R146). -/
def execNoReady (bay : BayId) (s : State) : Result :=
  finish (s.expire ((s.bay bay).powerDue .starting) (State.moduleFails bay .noReady))

/-- MOD_READY_ASSERTED (R144, R146). -/
def execModReadyAsserted (bay : BayId) (t : Tick) (s : State) : Result :=
  finish (((s.at t).modBay bay fun y => { y with modReady := Line.steady true }).readyAsserted bay)

/-- MOD_READY_RELEASED (R144, R147, R151). -/
def execModReadyReleased (bay : BayId) (t : Tick) (s : State) : Result :=
  finish (((s.at t).modBay bay fun y => { y with modReady := Line.steady false }).readyReleased bay)

/-- MOD_FAULT_ASSERTED (R144, R149). -/
def execModFaultAsserted (bay : BayId) (t : Tick) (s : State) : Result :=
  finish (((s.at t).modBay bay fun y => { y with modFault := Line.steady true }).moduleFails bay .moduleFault)

/-- UNIT_DONE (R144, R150, R152): the change of the line back to released has no row and no effect; idle ticks track it (log
entry 8). -/
def execUnitDone (bay : BayId) (t : Tick) (s : State) : Result :=
  finish (((s.at t).modBay bay fun y => { y with unitDone := Line.passing true }).confirmation bay)

/-- UNIT_REQ_PULSE_END (R150). -/
def execUnitReqPulseEnd (bay : BayId) (s : State) : Result :=
  finish (s.expire (s.bay bay).service.pulse (State.pulseEnds bay))

/-- NEXT_UNIT_START (R150). -/
def execNextUnitStart (bay : BayId) (s : State) : Result :=
  finish (s.expire (s.bay bay).service.nextUnit (State.startUnit bay))

/-- UNIT_TIMEOUT (R151, R155). -/
def execUnitTimeout (bay : BayId) (s : State) : Result :=
  finish (s.expire (s.bay bay).service.unitTimer (State.moduleFails bay .unitTimeout))

/-- PRINT_SENT (R154). -/
def execPrintSent (bay : BayId) (s : State) : Result := finish (s.printFrameSent bay)

/-- BAY_FRAME_RECEIVED (R154): the CHECK byte of the frame being assembled is taken; with none due, no frame completes. -/
def execBayFrameReceived (bay : BayId) (start t : Tick) (cells : Cells) (s : State) : Result :=
  let s := s.at t
  finish (if (s.bay bay).rx.awaitsCheck then s.bayCharacter bay start t cells else s)

/-- BAY_RX_GAP_TIMEOUT (R154). -/
def execBayRxGapTimeout (bay : BayId) (s : State) : Result :=
  finish (if (s.bay bay).rx.buffer.isSome then
      (s.reach (s.bay bay).rx.gapEnds).modBay bay fun y => { y with rx := y.rx.abandon }
    else s)

/-- PRINT_TIMEOUT (R154, R155). -/
def execPrintTimeout (bay : BayId) (s : State) : Result :=
  finish (s.expire (s.bay bay).service.printTimer (State.moduleFails bay .printTimeout))

/-- BAY_RX_BYTE (R154). -/
def execBayRxByte (bay : BayId) (start t : Tick) (cells : Cells) (s : State) : Result :=
  finish ((s.at t).bayCharacter bay start t cells)

end Sys2Proof.Machine
end

