-- ==== Sys2Proof/Machine/LaneCommands.lean ====
section
/-! DEFINITION. The meanings of the events of a lane: edges of its beams, its damage button, its tag port, and its timers. An
event on a line is taken on the tick it carries; a timer expires on the tick it was armed for. -/

namespace Sys2Proof.Machine

/-- A_ON (R9). -/
def execAOn (lane : LaneId) (t : Tick) (s : State) : Result := finish ((s.at t).beamA lane true)

/-- A_OFF (R10). -/
def execAOff (lane : LaneId) (t : Tick) (s : State) : Result := finish ((s.at t).beamA lane false)

/-- B_ON (R11, R14). -/
def execBOn (lane : LaneId) (t : Tick) (s : State) : Result := finish ((s.at t).beamB lane true)

/-- B_OFF (R12, R17). -/
def execBOff (lane : LaneId) (t : Tick) (s : State) : Result := finish ((s.at t).beamB lane false)

/-- NECK_EDGE (R13). -/
def execNeckEdge (lane : LaneId) (t : Tick) (s : State) : Result := finish ((s.at t).neckBlocked lane)

/-- DAMAGE_PRESS (R4). -/
def execDamagePress (lane : LaneId) (t : Tick) (s : State) : Result := finish ((s.at t).damageLevel lane true)

/-- DAMAGE_RELEASE (R3). -/
def execDamageRelease (lane : LaneId) (t : Tick) (s : State) : Result := finish ((s.at t).damageLevel lane false)

/-- TAG_BYTE (R5 to R7). -/
def execTagByte (lane : LaneId) (start t : Tick) (cells : Cells) (s : State) : Result :=
  finish ((s.at t).tagCharacter lane start t cells)

/-- The tick on which a partial tag report is discarded (R6). -/
def TagReceiver.expires (r : TagReceiver) : Option Tick :=
  if r.bytes = [] then none else some (r.lastStop + BitVec.ofNat 32 Config.tagGapTicks)

/-- TAG_ASSEMBLY_TIMEOUT (R6). -/
def execTagAssemblyTimeout (lane : LaneId) (s : State) : Result :=
  finish (s.expire (s.lane lane).tagRx.expires fun s => s.modLane lane fun l => { l with tagRx := { l.tagRx with bytes := [] } })

/-- The jam timer of a beam (R18). -/
def Lane.jamTimer (l : Lane) : Beam → Option Tick
  | .a => l.jamA
  | .b => l.jamB

/-- JAM (R18). -/
def execJam (lane : LaneId) (beam : Beam) (s : State) : Result :=
  finish (s.expire ((s.lane lane).jamTimer beam) (State.jamExpires lane beam))

/-- When the step in progress of a lane in state `st` completes (R39). -/
def Lane.stepDue (l : Lane) (st : LaneState) : Option Tick :=
  if l.state = st then l.diverter.step.map MotorStep.due else none

/-- STEP_COMPLETE (R39, R46): a step of running service. -/
def execStepComplete (lane : LaneId) (s : State) : Result :=
  finish (s.expire ((s.lane lane).stepDue .running) (State.completeStep lane))

/-- HOMING_STEP_COMPLETE (R41): DIV_HOME reads `home` at the completion. -/
def execHomingStepComplete (lane : LaneId) (home : Bool) (s : State) : Result :=
  finish (s.expire ((s.lane lane).stepDue .homing) fun s => (s.tellHome lane home).homingStep lane)

/-- When the gate-arrival timer of a record of a lane in service expires (R44, R47). -/
def Lane.arrivalDue (l : Lane) (seq : Nat) : Option Tick :=
  if l.state = .running then (l.awaitingArrival seq).bind Passage.gateArrival else none

/-- GATE_ARRIVAL (R47). -/
def execGateArrival (lane : LaneId) (seq : Nat) (s : State) : Result :=
  finish (s.expire ((s.lane lane).arrivalDue seq) (State.arrive lane seq))

/-- When the gate-clear timer of a committed record of a lane in service expires (R44, R50). -/
def Lane.clearDue (l : Lane) (seq : Nat) : Option Tick :=
  if l.state = .running then (findCommitted seq l.travel).bind Passage.gateClear else none

/-- GATE_CLEAR (R50). -/
def execGateClear (lane : LaneId) (seq : Nat) (s : State) : Result :=
  finish (s.expire ((s.lane lane).clearDue seq) (State.clearGate lane seq))

/-- QUIET (R66). -/
def execQuiet (lane : LaneId) (s : State) : Result :=
  finish (s.expire (s.lane lane).quietTimer (State.quietExpires lane))

/-- AUTO_CLOSED (R67). -/
def execAutoClosed (lane : LaneId) (s : State) : Result :=
  finish (s.expire (s.lane lane).autoCloseTimer (State.autoCloseExpires lane))

end Sys2Proof.Machine
end

