-- ==== Sys2Proof/Machine/RequestCommands.lean ====
section
/-! DEFINITION. The meanings of the thirty request commands: each is the arrival of its request's frame on the host line, whole
and with a good sum (log entry 1), which the port dispatches to the block that owns the request. -/

namespace Sys2Proof.Machine

/-- IDENT (R169). -/
def execIdent (s : State) : Result := finish (s.request .ident)

/-- STATE (R169). -/
def execState (s : State) : Result := finish (s.request .state)

/-- DAY_OPEN (R178). -/
def execDayOpen (day : Nat) (s : State) : Result := finish (s.request (.dayOpen day))

/-- DAY_CLOSE (R179). -/
def execDayClose (s : State) : Result := finish (s.request .dayClose)

/-- CONFIG_WRITE (R181). -/
def execConfigWrite (items : List ConfigItem) (s : State) : Result := finish (s.request (.configWrite items))

/-- CONFIG_READ (R180). -/
def execConfigRead (s : State) : Result := finish (s.request .configRead)

/-- CONFIG_SAVE (R182). -/
def execConfigSave (s : State) : Result := finish (s.request .configSave)

/-- PART_RESET (R183). -/
def execPartReset (s : State) : Result := finish (s.request .partReset)

/-- TYPE_WRITE (R26). -/
def execTypeWrite (entry : TypeEntryData) (s : State) : Result := finish (s.request (.typeWrite entry))

/-- TYPE_READ (R28). -/
def execTypeRead (index : Nat) (s : State) : Result := finish (s.request (.typeRead index))

/-- ACCT_WRITE (R100). -/
def execAcctWrite (record : AccountData) (s : State) : Result := finish (s.request (.acctWrite record))

/-- ACCT_READ (R103). -/
def execAcctRead (index : Nat) (s : State) : Result := finish (s.request (.acctRead index))

/-- ACCT_RANGE (R104). -/
def execAcctRange (first : Nat) (last : Nat) (s : State) : Result := finish (s.request (.acctRange first last))

/-- ACCT_NEXT (R105). -/
def execAcctNext (s : State) : Result := finish (s.request .acctNext)

/-- ISSUE (R107). -/
def execIssue (account : Nat) (type : Nat) (count : Nat) (s : State) : Result := finish (s.request (.issue account type count))

/-- DOCKET_OPEN (R75). -/
def execDocketOpen (lane : Nat) (account : Nat) (method : Nat) (s : State) : Result := finish (s.request (.docketOpen lane account method))

/-- DOCKET_CLOSE (R88). -/
def execDocketClose (lane : Nat) (s : State) : Result := finish (s.request (.docketClose lane))

/-- DOCKET_CANCEL (R92). -/
def execDocketCancel (lane : Nat) (s : State) : Result := finish (s.request (.docketCancel lane))

/-- DOCKET_READ (R94). -/
def execDocketRead (lane : Nat) (s : State) : Result := finish (s.request (.docketRead lane))

/-- DOCKET_ADJUST (R83). -/
def execDocketAdjust (lane : Nat) (type : Nat) (condition : Nat) (bottles : Nat) (delta : Int) (s : State) : Result := finish (s.request (.docketAdjust lane type condition bottles delta))

/-- LANE_HOLD (R62). -/
def execLaneHold (lane : Nat) (s : State) : Result := finish (s.request (.laneHold lane))

/-- LANE_RELEASE (R63). -/
def execLaneRelease (lane : Nat) (s : State) : Result := finish (s.request (.laneRelease lane))

/-- LANE_TRIM (R20). -/
def execLaneTrim (lane : Nat) (steps : Int) (s : State) : Result := finish (s.request (.laneTrim lane steps))

/-- LANE_READ (R69). -/
def execLaneRead (lane : Nat) (s : State) : Result := finish (s.request (.laneRead lane))

/-- SETTLE_READ (R124). -/
def execSettleRead (docket : Nat) (line : Nat) (s : State) : Result := finish (s.request (.settleRead docket line))

/-- ORDER_LIST (R140). -/
def execOrderList (list : Nat) (first : Nat) (s : State) : Result := finish (s.request (.orderList list first))

/-- ORDER_CANCEL (R139). -/
def execOrderCancel (order : Nat) (s : State) : Result := finish (s.request (.orderCancel order))

/-- PAY_CREDIT (R138). -/
def execPayCredit (account : Nat) (method : Nat) (amount : Nat) (s : State) : Result := finish (s.request (.payCredit account method amount))

/-- BAY_POWER (R156). -/
def execBayPower (bay : Nat) (setting : Nat) (s : State) : Result := finish (s.request (.bayPower bay setting))

/-- BAY_READ (R157). -/
def execBayRead (bay : Nat) (s : State) : Result := finish (s.request (.bayRead bay))

end Sys2Proof.Machine
end

