-- ==== Sys2Proof/Machine/Dispatch.lean ====
section
/-! DEFINITION. The command table: one arm per row of spec/opcode_table.json, each a direct call of its meaning. -/

namespace Sys2Proof.Machine

def exec (i : Instr) (s : State) : Host.Outcome State Fault Refusal :=
  match i with
  | .resetN => Sys2Proof.Machine.execResetN s
  | .storeReadDone => Sys2Proof.Machine.execStoreReadDone s
  | .saveComplete good => Sys2Proof.Machine.execSaveComplete good s
  | .frameReceived start t cells => Sys2Proof.Machine.execFrameReceived start t cells s
  | .rxGapTimeout => Sys2Proof.Machine.execRxGapTimeout s
  | .frameSent => Sys2Proof.Machine.execFrameSent s
  | .ident => Sys2Proof.Machine.execIdent s
  | .state => Sys2Proof.Machine.execState s
  | .dayOpen day => Sys2Proof.Machine.execDayOpen day s
  | .dayClose => Sys2Proof.Machine.execDayClose s
  | .configWrite items => Sys2Proof.Machine.execConfigWrite items s
  | .configRead => Sys2Proof.Machine.execConfigRead s
  | .configSave => Sys2Proof.Machine.execConfigSave s
  | .partReset => Sys2Proof.Machine.execPartReset s
  | .typeWrite entry => Sys2Proof.Machine.execTypeWrite entry s
  | .typeRead index => Sys2Proof.Machine.execTypeRead index s
  | .acctWrite record => Sys2Proof.Machine.execAcctWrite record s
  | .acctRead index => Sys2Proof.Machine.execAcctRead index s
  | .acctRange first last => Sys2Proof.Machine.execAcctRange first last s
  | .acctNext => Sys2Proof.Machine.execAcctNext s
  | .issue account type count => Sys2Proof.Machine.execIssue account type count s
  | .docketOpen lane account method => Sys2Proof.Machine.execDocketOpen lane account method s
  | .docketClose lane => Sys2Proof.Machine.execDocketClose lane s
  | .docketCancel lane => Sys2Proof.Machine.execDocketCancel lane s
  | .docketRead lane => Sys2Proof.Machine.execDocketRead lane s
  | .docketAdjust lane type condition bottles delta => Sys2Proof.Machine.execDocketAdjust lane type condition bottles delta s
  | .laneHold lane => Sys2Proof.Machine.execLaneHold lane s
  | .laneRelease lane => Sys2Proof.Machine.execLaneRelease lane s
  | .laneTrim lane steps => Sys2Proof.Machine.execLaneTrim lane steps s
  | .laneRead lane => Sys2Proof.Machine.execLaneRead lane s
  | .settleRead docket line => Sys2Proof.Machine.execSettleRead docket line s
  | .orderList list first => Sys2Proof.Machine.execOrderList list first s
  | .orderCancel order => Sys2Proof.Machine.execOrderCancel order s
  | .payCredit account method amount => Sys2Proof.Machine.execPayCredit account method amount s
  | .bayPower bay setting => Sys2Proof.Machine.execBayPower bay setting s
  | .bayRead bay => Sys2Proof.Machine.execBayRead bay s
  | .aOn lane t => Sys2Proof.Machine.execAOn lane t s
  | .aOff lane t => Sys2Proof.Machine.execAOff lane t s
  | .bOn lane t => Sys2Proof.Machine.execBOn lane t s
  | .bOff lane t => Sys2Proof.Machine.execBOff lane t s
  | .neckEdge lane t => Sys2Proof.Machine.execNeckEdge lane t s
  | .damagePress lane t => Sys2Proof.Machine.execDamagePress lane t s
  | .tagByte lane start t cells => Sys2Proof.Machine.execTagByte lane start t cells s
  | .tagAssemblyTimeout lane => Sys2Proof.Machine.execTagAssemblyTimeout lane s
  | .jam lane beam => Sys2Proof.Machine.execJam lane beam s
  | .stepComplete lane => Sys2Proof.Machine.execStepComplete lane s
  | .homingStepComplete lane home => Sys2Proof.Machine.execHomingStepComplete lane home s
  | .gateArrival lane seq => Sys2Proof.Machine.execGateArrival lane seq s
  | .gateClear lane seq => Sys2Proof.Machine.execGateClear lane seq s
  | .quiet lane => Sys2Proof.Machine.execQuiet lane s
  | .autoClosed lane => Sys2Proof.Machine.execAutoClosed lane s
  | .seatChange bay contact closed kind1 kind2 t => Sys2Proof.Machine.execSeatChange bay contact closed kind1 kind2 t s
  | .poweringDone bay ready fault => Sys2Proof.Machine.execPoweringDone bay ready fault s
  | .noReady bay => Sys2Proof.Machine.execNoReady bay s
  | .modReadyAsserted bay t => Sys2Proof.Machine.execModReadyAsserted bay t s
  | .modReadyReleased bay t => Sys2Proof.Machine.execModReadyReleased bay t s
  | .modFaultAsserted bay t => Sys2Proof.Machine.execModFaultAsserted bay t s
  | .unitDone bay t => Sys2Proof.Machine.execUnitDone bay t s
  | .unitReqPulseEnd bay => Sys2Proof.Machine.execUnitReqPulseEnd bay s
  | .nextUnitStart bay => Sys2Proof.Machine.execNextUnitStart bay s
  | .unitTimeout bay => Sys2Proof.Machine.execUnitTimeout bay s
  | .printSent bay => Sys2Proof.Machine.execPrintSent bay s
  | .bayFrameReceived bay start t cells => Sys2Proof.Machine.execBayFrameReceived bay start t cells s
  | .bayRxGapTimeout bay => Sys2Proof.Machine.execBayRxGapTimeout bay s
  | .printTimeout bay => Sys2Proof.Machine.execPrintTimeout bay s
  | .damageRelease lane t => Sys2Proof.Machine.execDamageRelease lane t s
  | .rxByte start t cells => Sys2Proof.Machine.execRxByte start t cells s
  | .bayRxByte bay start t cells => Sys2Proof.Machine.execBayRxByte bay start t cells s

end Sys2Proof.Machine
end

