-- ==== Sys2Proof/Machine/Ticks.lean ====
section
/-! DEFINITION. One tick of the part: what happens while no command waits. The tick count rises, every field line is sampled
through its filter, and every timer that has come to its tick expires, lane by lane and bay by bay (R1, R3, R18, R39, R44,
R65, R66, R143 to R154; log entries 3 and 4). -/

namespace Sys2Proof.Machine

/-- A timer that runs and has come to its tick. -/
def State.due (s : State) : Option Tick → Bool
  | some d => s.reached d
  | none => false

/-! ### A lane's tick -/

/-- All input lines of a lane sampled once (R1, R3, R41). -/
def Lane.sample (l : Lane) : Lane :=
  { l with
    beamA := l.beamA.sample
    beamB := l.beamB.sample
    neck := l.neck.sample
    damage := l.damage.sample
    diverter := { l.diverter with home := l.diverter.home.sample } }

/-- The lane's lines are sampled, and each accepted edge is taken: A, B, neck, then a press (R1, R3). -/
def State.sampleLane (i : LaneId) (s : State) : State :=
  let old := s.lane i
  let new := old.sample
  let s := s.modLane i Lane.sample
  let s := if new.beamA.level = old.beamA.level then s else s.edgeA i new.beamA.level
  let s := if new.beamB.level = old.beamB.level then s else s.edgeB i new.beamB.level
  let s := if new.neck.level && !old.neck.level then s.edgeNeck i else s
  if new.damage.pressed && !old.damage.pressed then s.press i else s

/-- The step in progress, if its time has come. -/
def State.tickStep (i : LaneId) (s : State) : State :=
  if s.due ((s.lane i).diverter.step.map MotorStep.due) then s.completeStep i else s

/-- The record's gate arrival is taken, if its timer is still armed and the lane RUNNING (R44, R47). -/
def State.takeArrival (i : LaneId) (s : State) (seq : Nat) : State :=
  if (s.lane i).state = .running ∧ ((s.lane i).awaitingArrival seq).isSome then s.arrive i seq else s

/-- The record's gate clear is taken, if it is still in the queue and the lane RUNNING (R44, R50). -/
def State.takeClear (i : LaneId) (s : State) (seq : Nat) : State :=
  if (s.lane i).state = .running ∧ (findCommitted seq (s.lane i).travel).isSome then s.clearGate i seq else s

/-- The sequence numbers of the records whose arrival is due, in the order in which they are taken: the travel queue oldest
first, then the span list oldest first. R49 leaves either order (DESIGN CHOICE, log entry 41). -/
def State.dueArrivals (s : State) (i : LaneId) : List Nat :=
  (((s.lane i).travel ++ (s.lane i).span).filter fun p => p.arrivalArmed && s.due p.gateArrival).map Passage.seq

/-- The sequence numbers of the committed records whose gate clear is due. -/
def State.dueClears (s : State) (i : LaneId) : List Nat :=
  ((s.lane i).travel.filter fun p => p.committed && s.due p.gateClear).map Passage.seq

/-- The gate events of a lane that are due: arrivals, then clears (R44). -/
def State.tickGate (i : LaneId) (s : State) : State :=
  let arrived := (s.dueArrivals i).foldl (State.takeArrival i) s
  (arrived.dueClears i).foldl (State.takeClear i) arrived

/-- The jam timers of a lane (R18). -/
def State.tickJams (i : LaneId) (s : State) : State :=
  let s := if s.due (s.lane i).jamA then s.jamExpires i .a else s
  if s.due (s.lane i).jamB then s.jamExpires i .b else s

/-- The quiet and auto-close timers of a lane (R66, R67). -/
def State.tickDocket (i : LaneId) (s : State) : State :=
  let s := if s.due (s.lane i).quietTimer then s.quietExpires i else s
  if s.due (s.lane i).autoCloseTimer then s.autoCloseExpires i else s

/-- One tick of a lane. DIV_HOME, of which no row of the table tells, shows a free level (log entry 45). -/
def State.tickLane (s : State) (i : LaneId) : State :=
  ((((((s.showHome i).sampleLane i).tickStep i).tickGate i).tickJams i).tickDocket i).tryMove i

/-! ### A bay's tick -/

/-- All input lines of a bay sampled once (R143, R144). -/
def Bay.sample (y : Bay) : Bay :=
  { y with
    seat1 := y.seat1.sample
    seat2 := y.seat2.sample
    kind1 := y.kind1.sample
    kind2 := y.kind2.sample
    modReady := y.modReady.sample
    modFault := y.modFault.sample
    unitDone := y.unitDone.sample }

/-- The bay meets the levels of its module's lines (R144, R146, R147, R151). -/
def State.moduleLevels (b : BayId) (s : State) : State :=
  match (s.bay b).state with
  | .starting => s.startingLevels b
  | .ready | .serving | .stopping =>
    if (s.bay b).modFault.level then s.moduleFails b .moduleFault
    else if (s.bay b).modReady.level then s
    else s.moduleFails b .readyLost
  | _ => s

/-- The bay's lines are sampled: its seat, a confirmation, its module's lines (R143, R144). -/
def State.sampleBay (b : BayId) (s : State) : State :=
  let old := s.bay b
  let new := old.sample
  let s := s.modBay b Bay.sample
  let s := if new.seat1.level = old.seat1.level ∧ new.seat2.level = old.seat2.level then s else s.followSeats b old.seated
  let s := if new.unitDone.level && !old.unitDone.level then s.confirmation b else s
  s.moduleLevels b

/-- The power sequence's timer (R146). -/
def State.tickPower (b : BayId) (s : State) : State :=
  if s.due (s.bay b).powerTimer then
    match (s.bay b).state with
    | .powering => s.poweringEnds b
    | .starting => s.moduleFails b .noReady
    | _ => s
  else s

/-- The timers of a service (R150, R151, R154). -/
def State.tickService (b : BayId) (s : State) : State :=
  let s := if s.due (s.bay b).service.pulse then s.pulseEnds b else s
  let s := if s.due (s.bay b).service.nextUnit then s.startUnit b else s
  let s := if s.due (s.bay b).service.unitTimer then s.moduleFails b .unitTimeout else s
  if s.due (s.bay b).service.printTimer then s.moduleFails b .printTimeout else s

/-- One tick of a bay. -/
def State.tickBay (s : State) (b : BayId) : State := ((s.sampleBay b).tickPower b).tickService b

/-- One tick of the part. -/
def State.idleTick (s : State) : State :=
  let t : State := { s with tick := s.tick + 1 }
  (State.tickBay (State.tickBay (State.tickLane (State.tickLane (State.tickLane (State.tickLane t 0) 1) 2) 3) 0) 1).transmit

end Sys2Proof.Machine
end

