-- ==== Sys2Proof/WellFormed.lean ====
section
/-! DEFINITION. Which commands are well formed: a request's fields fit the bytes R172 and R173 give them. Events carry
nothing that could be ill formed. -/

namespace Sys2Proof

/-- A number that fits `n` bytes. -/
def fits (n x : Nat) : Bool := x < 256 ^ n

/-- A signed number that fits `n` bytes of two's complement. -/
def fitsSigned (n : Nat) (x : Int) : Bool := -(2 ^ (8 * n - 1)) ≤ x && x < 2 ^ (8 * n - 1)

/-- The fields of a type-entry record fit their bytes (R173). -/
def TypeEntryData.wellFormed (e : TypeEntryData) : Bool :=
  fits 1 e.index && fits 1 e.owner && fits 2 e.tag && fits 2 e.lengthMin && fits 2 e.lengthMax && fits 1 e.slots
    && fits 2 e.deposit && fits 2 e.bottleDeposit && fits 2 e.damagedPermille && fits 2 e.surplusPermille

/-- The fields of an account record fit their bytes, and its pairs fit a frame: KIND and 20 bytes, then 3 for each pair,
in at most 250 (R161, R173). -/
def AccountData.wellFormed (a : AccountData) : Bool :=
  fits 1 a.index && fits 1 a.state && fits 4 a.number && fits 4 a.dayCap && fits 4 a.paidToday && fits 4 a.credit
    && a.pairs.length ≤ 76 && a.pairs.all (fun p => fits 1 p.1 && fits 2 p.2)

/-- The fields of a configuration item fit their bytes (chapter 11, section 11.3). -/
def ConfigItem.wellFormed (c : ConfigItem) : Bool := fits 1 c.code && fits 1 c.index && fits 2 c.value

/-- A request whose fields fit its frame (chapter 10, section 10.9). -/
def Request.wellFormed : Request → Bool
  | .ident | .state | .dayClose | .configRead | .configSave | .partReset | .acctNext => true
  | .dayOpen day => fits 2 day
  | .configWrite items => 1 ≤ items.length && items.length ≤ 62 && items.all ConfigItem.wellFormed
  | .typeWrite entry => entry.wellFormed
  | .typeRead index => fits 1 index
  | .acctWrite record => record.wellFormed
  | .acctRead index => fits 1 index
  | .acctRange first last => fits 1 first && fits 1 last
  | .issue account type count => fits 1 account && fits 1 type && fits 2 count
  | .docketOpen lane account method => fits 1 lane && fits 1 account && fits 1 method
  | .docketClose lane => fits 1 lane
  | .docketCancel lane => fits 1 lane
  | .docketRead lane => fits 1 lane
  | .docketAdjust lane type condition bottles delta =>
    fits 1 lane && fits 1 type && fits 1 condition && fits 1 bottles && fitsSigned 2 delta
  | .laneHold lane => fits 1 lane
  | .laneRelease lane => fits 1 lane
  | .laneTrim lane steps => fits 1 lane && fitsSigned 1 steps
  | .laneRead lane => fits 1 lane
  | .settleRead docket line => fits 2 docket && fits 1 line
  | .orderList list first => fits 1 list && fits 1 first
  | .orderCancel order => fits 2 order
  | .payCredit account method amount => fits 1 account && fits 1 method && fits 4 amount
  | .bayPower bay setting => fits 1 bay && fits 1 setting
  | .bayRead bay => fits 1 bay

/-- The request a command stands for, when it is a request command. -/
def Instr.request? : Instr → Option Request
  | .ident => some .ident
  | .state => some .state
  | .dayOpen day => some (.dayOpen day)
  | .dayClose => some .dayClose
  | .configWrite items => some (.configWrite items)
  | .configRead => some .configRead
  | .configSave => some .configSave
  | .partReset => some .partReset
  | .typeWrite entry => some (.typeWrite entry)
  | .typeRead index => some (.typeRead index)
  | .acctWrite record => some (.acctWrite record)
  | .acctRead index => some (.acctRead index)
  | .acctRange first last => some (.acctRange first last)
  | .acctNext => some .acctNext
  | .issue account type count => some (.issue account type count)
  | .docketOpen lane account method => some (.docketOpen lane account method)
  | .docketClose lane => some (.docketClose lane)
  | .docketCancel lane => some (.docketCancel lane)
  | .docketRead lane => some (.docketRead lane)
  | .docketAdjust lane type condition bottles delta => some (.docketAdjust lane type condition bottles delta)
  | .laneHold lane => some (.laneHold lane)
  | .laneRelease lane => some (.laneRelease lane)
  | .laneTrim lane steps => some (.laneTrim lane steps)
  | .laneRead lane => some (.laneRead lane)
  | .settleRead docket line => some (.settleRead docket line)
  | .orderList list first => some (.orderList list first)
  | .orderCancel order => some (.orderCancel order)
  | .payCredit account method amount => some (.payCredit account method amount)
  | .bayPower bay setting => some (.bayPower bay setting)
  | .bayRead bay => some (.bayRead bay)
  | .resetN | .storeReadDone | .saveComplete _ | .frameReceived _ _ _ | .rxGapTimeout | .frameSent
  | .aOn _ _ | .aOff _ _ | .bOn _ _ | .bOff _ _ | .neckEdge _ _ | .damagePress _ _ | .tagByte _ _ _ _
  | .tagAssemblyTimeout _ | .jam _ _ | .stepComplete _ | .homingStepComplete _ _ | .gateArrival _ _ | .gateClear _ _
  | .quiet _ | .autoClosed _ | .seatChange _ _ _ _ _ _ | .poweringDone _ _ _ | .noReady _ | .modReadyAsserted _ _
  | .modReadyReleased _ _ | .modFaultAsserted _ _ | .unitDone _ _ | .unitReqPulseEnd _ | .nextUnitStart _
  | .unitTimeout _ | .printSent _ | .bayFrameReceived _ _ _ _ | .bayRxGapTimeout _ | .printTimeout _
  | .damageRelease _ _ | .rxByte _ _ _ | .bayRxByte _ _ _ _ => none

/-- A well-formed command: its request, when it has one, is well formed; a record's sequence number is 0 to 65535 (R8). -/
def Instr.wellFormed : Instr → Bool
  | .gateArrival _ seq => seq < 65536
  | .gateClear _ seq => seq < 65536
  | i => match i.request? with
    | some r => r.wellFormed
    | none => true

end Sys2Proof
end

