-- ==== Sys2Proof/Safety.lean ====
section
/-! DEFINITION. What counts as a sound state of the YC-400, block by block, in the words of the manual's rules, and the few
words the statements are written in. -/

namespace Sys2Proof.Machine

/-! ### Words of the statements -/

/-- The dispatcher takes a frame on the event that completes it: no frame waits and the reply slot is free (R164). -/
def State.free (s : State) : Prop := s.port.waiting = none ∧ s.port.slot = none

/-- The state after a request's frame has been received: the receiver hunts (R162). -/
def State.heard (s : State) : State := { s with port := { s.port with rx := { s.port.rx with buffer := none } } }

/-- The reply to request `r` stands in the slot (R164, R165). -/
def State.answered (r : Request) (st : Status) (payload : List Byte) (s : State) : State :=
  { s with port := { s.port with slot := some ⟨kindOf r + 0x80, byteOf st.code, payload⟩ } }

/-- A lane's docket, if it has one, is not CLOSING. -/
def Lane.notClosing (l : Lane) : Prop := ∀ d, l.docket = some d → d.state ≠ .closing

/-- A lane stopped by a hold with reason `r`: HELD, its timers stopped, its step abandoned, nothing in flight, its records
voided against the docket and counted, HELD and, when a record was voided, VOIDED set (R51, R58, R59, R60, R70). -/
def Lane.heldBy (r : HoldReason) (l : Lane) : Lane :=
  { l with
    state := .held
    holds := l.holds.add r
    span := []
    travel := []
    quietTimer := none
    autoCloseTimer := none
    jamA := none
    jamB := none
    diverter := { l.diverter with step := none }
    docket := l.docket.map (Docket.voidRecords l.travel l.voids)
    voidCount := min 255 (l.voidCount + l.voids)
    flags := { l.flags with held := true, voided := l.flags.voided || decide (0 < l.voids) } }

/-- A bay whose power has gone off on the way to state `st`: its lines released, its timers stopped, nothing outstanding, its
line abandoned (R145). -/
def Bay.unpowered (st : BayState) (y : Bay) : Bay :=
  { y with
    state := st
    service := ⟨none, 0, none, none, none, none, none, [], none⟩
    powerTimer := none
    rx := { y.rx with buffer := none } }

/-- What an interruption does to the order a bay served, if any: the bay sets ORDER_INTERRUPTED, the order returns to WAITING
with no bay, the queue sets ORDER_RETURNED, and the arbiter acts (R137, R149). -/
def State.handsBack (b : BayId) (order : Option PayOrder) (s : State) : State :=
  match order with
  | none => s
  | some o => State.arbitrate (State.raiseQueue (fun f => { f with orderReturned := true })
      (State.raiseBay b (fun f => { f with orderInterrupted := true })
        (State.modOrder o.number (fun o => { o with state := .waiting, bay := none }) s)))

/-- What bay `b` serves is `order`: none, or the order of the pending list with the number the bay holds. -/
def State.bayServes (s : State) (b : BayId) (order : Option PayOrder) : Prop :=
  (s.bay b).service.order = order.map PayOrder.number ∧ ∀ o, order = some o → s.order o.number = some o

/-! ### The attention set (R167) -/

/-- The attention set holds each of its sources at most once. -/
def AttentionOnce (s : State) : Prop := s.port.attention.Nodup

/-! ### Accounts (R97 to R99) -/

/-- An account record lies within its ranges, its paid today within its day cap (R97). -/
def Account.InRange (a : Account) : Prop :=
  1 ≤ a.number ∧ a.number ≤ 4294967295 ∧ a.dayCap ≤ Config.maxAmount ∧ a.paidToday ≤ a.dayCap
    ∧ a.credit ≤ Config.maxAmount ∧ ∀ n ∈ a.outstanding.toList, n ≤ Config.wordMax

/-- Every non-empty slot is within its ranges, and no two hold the same account number (R97, R99). -/
def AccountsSound (s : State) : Prop :=
  (∀ i a, s.account i = some a → a.InRange)
    ∧ ∀ i j a b, s.account i = some a → s.account j = some b → a.number = b.number → i = j

/-! ### Type table (R25) -/

/-- A type table in which no two enabled tagged types share owner and tag code, and no two enabled length-only types have
windows that overlap (R25). -/
def TableConsistent (types : Vector TypeEntry 24) : Prop :=
  ∀ i j : Fin 24, i ≠ j → types[i].duplicates types[j] = false ∧ types[i].overlaps types[j] = false

/-- The working table, both images of the store and the image being saved are consistent (R25, R29, R182). -/
def TypesSound (s : State) : Prop :=
  TableConsistent s.types ∧ TableConsistent s.part.area1.types ∧ TableConsistent s.part.area2.types
    ∧ ∀ v, s.part.save = some v → TableConsistent v.image.types

/-! ### Lanes (R2, R44, R55, R58) -/

/-- What lane control keeps of a lane: a reason in the set exactly in HELD; nothing in flight outside RUNNING; no docket in
OFF and one in HOMING and RUNNING; a CLOSING docket only in RUNNING; and the lists within their places. -/
def Lane.Sound (l : Lane) : Prop :=
  (l.state = .held ↔ l.holds ≠ HoldSet.empty) ∧ (l.state ≠ .running → l.span = [] ∧ l.travel = [])
    ∧ (l.state = .off → l.docket = none) ∧ (l.state = .homing ∨ l.state = .running → l.docket.isSome)
    ∧ (l.state ≠ .running → l.notClosing) ∧ l.span.length ≤ Config.spanMax ∧ l.travel.length ≤ Config.travelMax

/-- Every lane is sound. -/
def LanesSound (s : State) : Prop := ∀ i, (s.lane i).Sound

/-! ### Dockets (R72, R77 to R79) -/

/-- What the docket engine keeps of a docket: runs used and reserved within 48; the accepted count the sum of the runs; the
reserved count the number of unmade entries; and a plan whose entries have names of their own, targets of their own that
exist, and at least one record pending each. -/
def Docket.Sound (d : Docket) : Prop :=
  d.runs.length + d.reserved ≤ Config.runsMax ∧ d.accepted = (d.runs.map Run.count).sum
    ∧ d.reserved = (d.plan.filter fun e => e.target.isNone).length
    ∧ (d.plan.map PlanEntry.name).Nodup ∧ (d.plan.filterMap PlanEntry.target).Nodup
    ∧ ∀ e ∈ d.plan, e.name < d.nextEntry ∧ 1 ≤ e.pending ∧ ∀ k, e.target = some k → k < d.runs.length

/-- Every docket is sound. -/
def DocketsSound (s : State) : Prop := ∀ d ∈ s.dockets, d.Sound

/-! ### Commitments and pressure (R131, R132) -/

/-- The commitment count is the number of pending orders plus the number of dockets with method CASH or VOUCHER (R131). -/
def CommitmentsCounted (s : State) : Prop :=
  s.queue.commitments = s.queue.orders.length + (s.dockets.filter fun d => d.method ≠ .account).length

/-- The pressure marks of a configuration: LOW_MARK below HIGH_MARK, HIGH_MARK at most 16 (R132). -/
def Settings.MarksGood (g : Settings) : Prop := g.lowMark < g.highMark ∧ g.highMark ≤ 16

/-- The marks are good in the working configuration and in every image; in NORMAL the count is below HIGH_MARK; the count
never exceeds the 16 places of the pending list; and nothing is committed in STARTING (R131, R132). -/
def PressureSound (s : State) : Prop :=
  s.settings.MarksGood ∧ s.part.area1.settings.MarksGood ∧ s.part.area2.settings.MarksGood
    ∧ (∀ v, s.part.save = some v → v.image.settings.MarksGood)
    ∧ (s.queue.pressure = .normal → s.queue.commitments < s.settings.highMark)
    ∧ s.queue.commitments ≤ Config.pendingMax ∧ (s.part.state = .starting → s.queue.commitments = 0)

end Sys2Proof.Machine
end

