-- ==== Sys2Proof/Certificates/Slice0/Obligations.lean ====
section
/-! DEFINITION. The statements for the provers, in the order of OBLIGATIONS.json: the machine and its queue, the message port,
the settings store, the lanes, the dockets, the accounts, settlement, the payout queue, the bays, and the invariants. Where a
statement gives the state a command leaves, it gives it as the state before with the fields that change; all else is as
before, until the transmitter's choice (`transmit`, stated by TransmitterChooses), which every command ends with. -/

open Sys2Proof Sys2Proof.Machine

/-! ### The machine and its queue -/

/-- A step with a command in front of the queue is that command's effect on the state with the queue's rest. -/
def Obligations.StepRunsFrontCommand : Prop :=
  ∀ (c : Instr) (rest : List Instr) (s : State), s.pending = c :: rest → step s = exec c { s with pending := rest }

/-- With an empty queue a step is one tick, the model's choice (log entry 3): the tick count rises by one, each lane and bay has
its tick in turn (log entry 4), the transmitter chooses, and no setting, type, day or command changes. A timer that has come to
its tick expires as its command says: jam, step, gate, quiet and auto-close timers, the power sequence and the timers of a
service; one that has not, or does not run, does nothing (R18, R39, R44, R66, R67, R146, R150, R151, R154; log entry 15). The pin
of DIV_HOME shows a free level on each such tick, after its filter has taken one on each tick that passed before it, the model's
choice (log entry 45). -/
def Obligations.IdleStepIsOneTick : Prop :=
  (∀ s : State, s.pending = [] →
    (∃ t, step s = .next t ∧ t.tick = s.tick + 1 ∧ t.pending = [] ∧ t.settings = s.settings ∧ t.types = s.types
      ∧ t.part.day = s.part.day)
    ∧ step s = .next (State.transmit (List.foldl State.tickBay (List.foldl State.tickLane { s with tick := s.tick + 1 }
        [0, 1, 2, 3]) [0, 1])))
  ∧ (∀ (i : LaneId) (s : State),
    let due (x : Option Tick) : Prop := ∃ d, x = some d ∧ s.reached d = true
    let stops : Prop := (s.lane i).state = .homing ∨ (s.lane i).state = .running
    let v := (s.lane i).diverter
    let levels := Config.divHome i s.port.resets
    let pass (w : Diverter) : Diverter := { w with
      home := Line.sample { w.home with pin := levels w.homeReads }, homeReads := w.homeReads + 1 }
    let run : Diverter := pass^[min 3 (Tick.since (s.tick - 1) v.homeTick)] v
    let shown : State := s.modLane i fun l => { l with diverter := { run with
      home := { run.home with pin := levels run.homeReads }, homeReads := run.homeReads + 1, homeTick := s.tick } }
    s.tickLane i = State.tryMove i (State.tickDocket i (State.tickJams i (State.tickGate i (State.tickStep i
      (shown.sampleLane i)))))
    ∧ (¬ due (s.lane i).jamA → ¬ due (s.lane i).jamB → s.tickJams i = s)
    ∧ (due (s.lane i).jamA → ¬ due (s.lane i).jamB ∨ stops → exec (.jam i .a) s = .next (s.tickJams i).transmit)
    ∧ (¬ due (s.lane i).jamA → due (s.lane i).jamB → exec (.jam i .b) s = .next (s.tickJams i).transmit)
    ∧ (due (s.lane i).jamA → due (s.lane i).jamB → ¬ stops →
        s.tickJams i = s.modLane i fun l => { l with jamA := none, jamB := none })
    ∧ (¬ due ((s.lane i).diverter.step.map MotorStep.due) → s.tickStep i = s)
    ∧ (due ((s.lane i).diverter.step.map MotorStep.due) →
      ((s.lane i).state = .running → exec (.stepComplete i) s = .next (s.tickStep i).transmit)
      ∧ (∀ home, (s.lane i).state = .homing → v.home.level = home → v.homeTick = s.tick →
        exec (.homingStepComplete i home) s = .next (s.tickStep i).transmit))
    ∧ s.tickGate i = (let u := (s.dueArrivals i).foldl (State.takeArrival i) s
        (u.dueClears i).foldl (State.takeClear i) u)
    ∧ (∀ n, n ∈ s.dueArrivals i ↔ ∃ p ∈ (s.lane i).travel ++ (s.lane i).span,
        p.seq = n ∧ p.committed = false ∧ due p.gateArrival)
    ∧ (∀ n, n ∈ s.dueClears i ↔ ∃ p ∈ (s.lane i).travel, p.seq = n ∧ p.committed = true ∧ due p.gateClear)
    ∧ (∀ n, ((s.lane i).state ≠ .running ∨ (s.lane i).awaitingArrival n = none → s.takeArrival i n = s)
      ∧ ((s.lane i).state ≠ .running ∨ (∀ q ∈ (s.lane i).travel, q.seq = n → q.committed = false) → s.takeClear i n = s)
      ∧ (∀ p, (s.lane i).state = .running → (s.lane i).awaitingArrival n = some p → due p.gateArrival →
        exec (.gateArrival i n) s = .next (s.takeArrival i n).transmit)
      ∧ ∀ xs p ys, (s.lane i).state = .running → (s.lane i).travel = xs ++ p :: ys →
        (∀ q ∈ xs, q.seq = n → q.committed = false) → p.seq = n → p.committed = true → due p.gateClear →
        exec (.gateClear i n) s = .next (s.takeClear i n).transmit)
    ∧ (¬ due (s.lane i).quietTimer → ¬ due (s.lane i).autoCloseTimer → s.tickDocket i = s)
    ∧ (due (s.lane i).quietTimer → ¬ due (s.lane i).autoCloseTimer → s.settings.autoClose ≤ 60 →
        exec (.quiet i) s = .next (s.tickDocket i).transmit)
    ∧ (¬ due (s.lane i).quietTimer → due (s.lane i).autoCloseTimer →
        exec (.autoClosed i) s = .next (s.tickDocket i).transmit))
  ∧ ∀ (b : BayId) (s : State),
    let due (x : Option Tick) : Prop := ∃ d, x = some d ∧ s.reached d = true
    let v := (s.bay b).service
    s.tickBay b = State.tickService b (State.tickPower b (s.sampleBay b))
    ∧ (¬ due (s.bay b).powerTimer → s.tickPower b = s)
    ∧ (due (s.bay b).powerTimer →
      (∀ r f, (s.bay b).state = .powering → (s.bay b).modReady = Line.steady r → (s.bay b).modFault = Line.steady f →
        exec (.poweringDone b r f) s = .next (s.tickPower b).transmit)
      ∧ ((s.bay b).state = .starting → exec (.noReady b) s = .next (s.tickPower b).transmit))
    ∧ (¬ due v.pulse → ¬ due v.nextUnit → ¬ due v.unitTimer → ¬ due v.printTimer → s.tickService b = s)
    ∧ (due v.pulse → ¬ due v.nextUnit → ¬ due v.unitTimer → ¬ due v.printTimer →
        exec (.unitReqPulseEnd b) s = .next (s.tickService b).transmit)
    ∧ (¬ due v.pulse → due v.nextUnit → ¬ due v.unitTimer → ¬ due v.printTimer →
        exec (.nextUnitStart b) s = .next (s.tickService b).transmit)
    ∧ (¬ due v.pulse → ¬ due v.nextUnit → due v.unitTimer → ¬ due v.printTimer →
        exec (.unitTimeout b) s = .next (s.tickService b).transmit)
    ∧ (¬ due v.pulse → ¬ due v.nextUnit → ¬ due v.unitTimer → due v.printTimer →
        exec (.printTimeout b) s = .next (s.tickService b).transmit)

/-- Every command answers a next state, whatever the state and the operands, and leaves the queue behind it as it was. -/
def Obligations.EveryCommandCompletes : Prop :=
  ∀ (c : Instr) (s : State), ∃ t, exec c s = .next t ∧ t.pending = s.pending

/-! ### The message port -/

/-- Every well-formed request is read back, with every field, from the frame that carries it (R172, R173, section 10.9). -/
def Obligations.RequestFrameRoundTrip : Prop :=
  ∀ r : Request, r.wellFormed = true → parseRequest (kindOf r) (payloadOf r) = .request r

/-- The frame around a body of 1 to 250 bytes is SYNC 0xA7, LEN, the body and a CHECK with which LEN, body and CHECK sum to 0
modulo 256, SYNC left out; and a receiver that has taken LEN and the body completes a frame with a good sum on that CHECK
(R161). -/
def Obligations.FrameSumsToZero : Prop :=
  ∀ (body : List Byte) (r : FrameReceiver), 1 ≤ body.length → body.length ≤ 250 →
    ∃ check, frameOf body = 0xA7 :: byteOf body.length :: (body ++ [check])
      ∧ (byteOf body.length).toNat = body.length ∧ byteOf body.length + body.sum + check = 0
      ∧ assemble r (byteOf body.length :: body) check = ⟨{ r with buffer := none }, some ⟨body, true⟩⟩

/-- A request whose frame completes while the reply slot is taken waits when the waiting buffer is empty; otherwise it is lost
and OVERRUN is set, and nothing else changes (R163). The CHECK byte of a frame completes it, its sum good exactly when LEN, BODY
and CHECK sum to 0 modulo 256; the frame waits while the slot is taken, and is lost with OVERRUN set while another waits; with
waiting buffer and slot free it is dispatched on the event (R161, R163, R164). That a request command is the completion of that
request's frame is the model's choice (log entry 1). -/
def Obligations.CompletedFramesWaitOrAreDispatched : Prop :=
  (∀ (c : Instr) (r : Request) (s : State), c.request? = some r → s.port.slot ≠ none →
    (s.port.waiting = none →
      exec c s = .next ({ s.heard with port := { s.heard.port with waiting := some (requestFrame r) } }).transmit)
    ∧ (s.port.waiting ≠ none → exec c s = .next ({ s.heard with port := { s.heard.port with overrun := true } }).transmit))
  ∧ ∀ (start t : Tick) (c : Cells) (s : State) (b len : Byte) (body : List Byte),
    readCharacter c = .byte b → s.port.rx.buffer = some (len :: body) → body.length = len.toNat →
    Tick.since start s.port.rx.lastStop ≤ 80 →
    let f : Frame := ⟨body, decide (len + sumBytes body + b = 0)⟩
    let u : State := { s.at t with port := { s.port with rx := ⟨none, t, false⟩ } }
    (s.port.waiting ≠ none →
      exec (.frameReceived start t c) s = .next ({ u with port := { u.port with overrun := true } }).transmit)
    ∧ (s.port.waiting = none → s.port.slot ≠ none →
        exec (.frameReceived start t c) s = .next ({ u with port := { u.port with waiting := some f } }).transmit)
    ∧ (s.free → exec (.frameReceived start t c) s = .next (u.dispatchFrame f).transmit)

/-- The dispatcher's checks, in their order. A frame with a bad sum, an unknown kind or a wrong length is answered with REJECT and
its reason, 1, 2 or 3, and the KIND byte as received; no block changes (R164). The part state then refuses what R170's table says
it refuses, with BAD_STATE and no other change: in STARTING every request but IDENT and STATE, in CLOSED DOCKET_OPEN, PAY_CREDIT
and DAY_CLOSE, in OPEN DAY_OPEN. A frame that passes the checks is handed to the block that owns its request, whose answer takes
the slot as the reply, however the frame came to be dispatched: with the port free its dispatch is what the request's command
does, after which the transmitter chooses (R164, R165). That a request command is the completion of that request's frame is the
model's choice (log entry 1). -/
def Obligations.DispatchChecksInOrder : Prop :=
  (∀ (f : Frame) (s : State),
    (f.sumGood = false → s.dispatchFrame f = s.fillSlot ⟨0x7F, 1, [f.body.headD 0]⟩)
    ∧ (f.sumGood = true → parseRequest (f.body.headD 0) f.body.tail = .unknownKind →
        s.dispatchFrame f = s.fillSlot ⟨0x7F, 2, [f.body.headD 0]⟩)
    ∧ (f.sumGood = true → parseRequest (f.body.headD 0) f.body.tail = .badLength →
        s.dispatchFrame f = s.fillSlot ⟨0x7F, 3, [f.body.headD 0]⟩)
    ∧ ∀ r, f.sumGood = true → parseRequest (f.body.headD 0) f.body.tail = .request r →
        (s.part.state.takes r = false → s.dispatchFrame f = s.answered r .badState [])
        ∧ (s.part.state.takes r = true → s.dispatchFrame f =
          (decideRequest r s).1.answered r (decideRequest r s).2.status (decideRequest r s).2.payload)
        ∧ ∀ c : Instr, c.request? = some r → s.free → exec c s = .next (s.heard.dispatchFrame f).transmit)
  ∧ ∀ (c : Instr) (r : Request) (s : State), c.request? = some r → r.wellFormed = true → s.free →
    (s.part.state = .starting ∧ r ≠ .ident ∧ r ≠ .state
      ∨ s.part.state = .closed ∧ ((∃ l a m, r = .docketOpen l a m) ∨ (∃ a m x, r = .payCredit a m x) ∨ r = .dayClose)
      ∨ s.part.state = .opened ∧ ∃ d, r = .dayOpen d) →
    exec c s = .next (s.heard.answered r .badState []).transmit

/-- The transmitter's choice: a frame being sent goes on; an idle transmitter sends the reply in the slot first, FLAGS filled in
and OVERRUN cleared; otherwise it builds a notice for the earliest member of the attention set, takes that member out and clears
its source's event flags and per-notice memories and nothing else; with nothing to send it stays idle (R37, R70, R95, R165, R166).
A notice carries KIND and its source's fields as they stand, in the layout of R175 (R168, R175); that the stray-unit count has 2
bytes is the model's choice (log entry 44), and so is that enumeration codes, the commitment count of QUEUE and the event flags of
BAY, QUEUE and PART have 1 byte each (log entry 46). -/
def Obligations.TransmitterChooses : Prop :=
  ∀ s : State, (s.port.sending ≠ .idle → s.transmit = s)
    ∧ (s.port.sending = .idle → ∀ r, s.port.slot = some r → s.transmit = { s with port := { s.port with
        sending := .reply (frameOf (r.kind :: r.status
          :: byteOf ((if s.port.attention = [] then 0 else 1) + (if s.port.overrun then 2 else 0)) :: r.payload))
        overrun := false } })
    ∧ (s.port.sending = .idle → s.port.slot = none → s.port.attention = [] → s.transmit = s)
    ∧ (∀ x xs, s.port.sending = .idle → s.port.slot = none → s.port.attention = x :: xs → x ∉ xs →
        let noticed (u : State) : Prop := s.transmit = { u with port := { s.port with
          sending := .notice (frameOf (s.noticeBody x)), attention := xs } }
        (∀ i, x = .lane i → noticed (s.modLane i fun l => { l with
          flags := LaneFlags.none, voidCount := 0, lastRefuse := none, lastSettled := none }))
        ∧ (∀ b, x = .bay b → noticed (s.modBay b fun y => { y with flags := BayFlags.none }))
        ∧ (x = .queue → noticed { s with queue := { s.queue with flags := QueueFlags.none } })
        ∧ (x = .part → noticed { s with part := { s.part with flags := PartFlags.none } }))
    ∧ (∀ i, let l := s.lane i
        s.noticeBody (.lane i) = [0x70, byteOf i.val, byteOf l.state.code,
            byteOf (l.holds.crowded.toNat + 2 * l.holds.strayAtB.toNat + 4 * l.holds.jam.toNat + 8 * l.holds.lateDivert.toNat
              + 16 * l.holds.diverterHome.toNat + 32 * l.holds.requested.toNat + 64 * l.holds.cancelled.toNat)]
          ++ le2 (l.flags.commit.toNat + 2 * l.flags.refused.toNat + 4 * l.flags.misrouted.toNat + 8 * l.flags.voided.toNat
            + 16 * l.flags.quiet.toNat + 32 * l.flags.autoClosed.toNat + 64 * l.flags.settled.toNat + 128 * l.flags.held.toNat
            + 256 * l.flags.released.toNat + 512 * l.flags.damageIgnored.toNat + 1024 * l.flags.tagIgnored.toNat
            + 2048 * l.flags.docketFull.toNat)
          ++ [byteOf l.voidCount,
            byteOf (l.docket.isSome.toNat + 2 * l.lastRefuse.isSome.toNat + 4 * l.lastSettled.isSome.toNat)]
          ++ (match l.docket with
            | some d => le2 d.number ++ [byteOf d.state.code] ++ le2 d.accepted ++ le2 d.refused ++ [byteOf d.runs.length]
            | none => [])
          ++ (match l.lastRefuse with | some r => [byteOf r.code] | none => [])
          ++ (match l.lastSettled with | some n => le2 n | none => []))
    ∧ (∀ b order, s.bayServes b order → let y := s.bay b
        s.noticeBody (.bay b) = [0x71, byteOf b.val, byteOf y.state.code,
            byteOf (y.flags.seated.toNat + 2 * y.flags.removed.toNat + 4 * y.flags.ready.toNat + 8 * y.flags.fault.toNat
              + 16 * y.flags.orderDone.toNat + 32 * y.flags.orderInterrupted.toNat + 64 * y.flags.strayUnit.toNat),
            byteOf (y.enable.toNat + 2 * (match y.kind with
                | none => 0 | some .cash => 1 | some .voucher => 2 | some .unsupported => 3)
              + 8 * y.lastFault.isSome.toNat + 16 * order.isSome.toNat)]
          ++ (match y.lastFault with
            | some (.printFailed code) => [6, code]
            | some c => [byteOf c.code, 0]
            | none => [])
          ++ (match order with | some o => le2 o.number ++ le4 o.amount ++ le4 o.paid | none => [])
          ++ le2 y.stray)
    ∧ s.noticeBody .queue = [0x72,
        byteOf (s.queue.flags.orderAdded.toNat + 2 * s.queue.flags.orderDone.toNat + 4 * s.queue.flags.orderReturned.toNat
          + 8 * s.queue.flags.orderCancelled.toNat + 16 * s.queue.flags.pressureHigh.toNat
          + 32 * s.queue.flags.pressureNormal.toNat),
        byteOf s.queue.orders.length, byteOf s.queue.commitments, byteOf s.queue.pressure.code]
    ∧ s.noticeBody .part = [0x73, byteOf s.part.state.code,
        byteOf (s.part.flags.started.toNat + 2 * s.part.flags.saveDone.toNat + 4 * s.part.flags.saveFailed.toNat)]

/-- FRAME_SENT. After a notice the transmitter chooses as when idle. After a reply the slot is free and a waiting frame is
dispatched; then, when the attention set is non-empty, the next frame is a notice for its earliest member, even though a reply
was formed, and with the set empty the new reply is sent. After an accepted PART_RESET's reply the part resets (R164, R166,
R183). That the waiting frame is dispatched before the transmitter looks at the set, and that with no frame being sent nothing
happens, are the model's choices (log entries 6 and 15). -/
def Obligations.FrameSentContinues : Prop :=
  ∀ s : State,
    (∀ bs, s.port.sending = .notice bs →
      exec .frameSent s = .next ({ s with port := { s.port with sending := .idle } }).transmit)
    ∧ (∀ bs x xs, s.port.sending = .reply bs → s.port.resetPending = false → s.port.waiting = none →
        s.port.attention = x :: xs →
        exec .frameSent s = .next (State.beginNotice x { s with port := { s.port with sending := .idle, slot := none } }))
    ∧ (∀ bs, s.port.sending = .reply bs → s.port.resetPending = false → s.port.waiting = none → s.port.attention = [] →
        exec .frameSent s = .next { s with port := { s.port with sending := .idle, slot := none } })
    ∧ (∀ bs f, s.port.sending = .reply bs → s.port.resetPending = false → s.port.waiting = some f →
        let dispatched := State.dispatchFrame f { s with port := { s.port with
          sending := .idle, slot := none, waiting := none } }
        (∀ x xs, dispatched.port.attention = x :: xs → exec .frameSent s = .next (State.beginNotice x dispatched))
        ∧ (dispatched.port.attention = [] → exec .frameSent s = .next dispatched.transmit
          ∧ ∃ r, dispatched.port.slot = some r))
    ∧ (∀ bs, s.port.sending = .reply bs → s.port.resetPending = true → exec .frameSent s = .next s.resetPart)
    ∧ (s.port.sending = .idle → exec .frameSent s = .next s.transmit)

/-- RX_BYTE and RX_GAP_TIMEOUT. A good character that is not 0xA7 is discarded by a hunting receiver and 0xA7 begins a frame;
a framing error abandons a frame; a LEN outside 1 to 250 abandons it; inside a frame a byte more than 20 ms (80 ticks) after
the last stop bit is taken as if hunting; a start bit that is not accepted changes nothing in the frame; and the gap alone
abandons the frame, on the tick it ends (R160, R162; log entry 2). With no frame begun RX_GAP_TIMEOUT does nothing (log entry 15).
With a CHECK byte due RX_BYTE and FRAME_RECEIVED do the same, whatever the character: on time, late, in error or dropped; with
none due FRAME_RECEIVED only sets the clock, the model's choice (log entry 37). -/
def Obligations.ReceiverAssembles : Prop :=
  ∀ (start t : Tick) (c : Cells) (s : State) (b : Byte),
    (readCharacter c = .framingError →
      exec (.rxByte start t c) s = .next ({ s.at t with port := { s.port with rx := ⟨none, t, true⟩ } }).transmit)
    ∧ (readCharacter c = .byte b → s.port.rx.buffer = none →
        exec (.rxByte start t c) s = .next ({ s.at t with port := { s.port with
          rx := ⟨if b = 0xA7 then some [] else none, t, false⟩ } }).transmit)
    ∧ (readCharacter c = .byte b → s.port.rx.buffer = some [] → Tick.since start s.port.rx.lastStop ≤ 80 →
        exec (.rxByte start t c) s = .next ({ s.at t with port := { s.port with
          rx := ⟨if b = 0 ∨ 250 < b.toNat then none else some [b], t, false⟩ } }).transmit)
    ∧ (∀ len body, readCharacter c = .byte b → s.port.rx.buffer = some (len :: body) → body.length < len.toNat →
        Tick.since start s.port.rx.lastStop ≤ 80 →
        exec (.rxByte start t c) s = .next ({ s.at t with port := { s.port with
          rx := ⟨some (len :: body ++ [b]), t, false⟩ } }).transmit)
    ∧ (∀ bs, readCharacter c = .byte b → s.port.rx.buffer = some bs → 80 < Tick.since start s.port.rx.lastStop →
        exec (.rxByte start t c) s = .next ({ s.at t with port := { s.port with
          rx := ⟨if b = 0xA7 then some [] else none, t, false⟩ } }).transmit)
    ∧ (readCharacter c = .dropped →
        exec (.rxByte start t c) s = .next ({ s.at t with port := { s.port with
          rx := { s.port.rx with waitHigh := false } } }).transmit)
    ∧ (∀ len body, s.port.rx.buffer = some (len :: body) → body.length = len.toNat →
        exec (.frameReceived start t c) s = exec (.rxByte start t c) s)
    ∧ ((∀ len body, s.port.rx.buffer = some (len :: body) → body.length ≠ len.toNat) →
        exec (.frameReceived start t c) s = .next (s.at t).transmit)
    ∧ (∀ bs, s.port.rx.buffer = some bs →
        exec .rxGapTimeout s = .next ({ s.reach (s.port.rx.lastStop + 81) with port := { s.port with
          rx := { s.port.rx with buffer := none } } }).transmit)
    ∧ (s.port.rx.buffer = none → exec .rxGapTimeout s = .next s.transmit)

/-! ### Reset, the store and the yard day -/

/-- RESET_N: every block takes the state its chapter gives it after reset, with its input filters filled with the present samples;
the part is STARTING and only the store stays, but for the area a save was writing, which is left invalid (R22, R54, R71, R96,
R111, R127, R142, R159, R160, R171, R177, R183). The RATE pins are read, at levels that are free at each reset (log entry 38);
DIV_HOME's present sample is its pin where that has shown a level on the tick of the reset, otherwise free (log entry 45); the
DAMAGE filter is refilled too (log entry 40); the queue of commands stays (log entry 34); while STARTING the working configuration
and table read as their defaults, and a bay's enable is the BAY_AUTOPOWER setting that the store read will load (log entry 23). -/
def Obligations.ResetTakesEveryBlock : Prop :=
  ∀ s : State, ∃ t, exec .resetN s = .next t ∧ t.tick = 0 ∧ t.pending = s.pending
    ∧ (∀ i, t.lane i = {
        beamA := Line.steady (s.lane i).beamA.pin, beamB := Line.steady (s.lane i).beamB.pin
        neck := Line.steady (s.lane i).neck.pin
        damage := ⟨Line.steady (s.lane i).damage.line.pin, (s.lane i).damage.line.pin, 0⟩
        tagRx := ⟨[], 0, false⟩, span := [], nextSeq := 0
        diverter := ⟨0, 0, false, 0, none, Line.steady (if (s.lane i).diverter.homeTick = s.tick
          then (s.lane i).diverter.home.pin else Config.divHome i (s.port.resets + 1) 0), 1, 0⟩
        travel := [], state := .off, holds := HoldSet.empty, quietTimer := none, autoCloseTimer := none
        jamA := none, jamB := none, docket := none, flags := LaneFlags.none, lastRefuse := none, voidCount := 0
        lastSettled := none })
    ∧ t.types = Vector.replicate 24 TypeEntry.default ∧ t.settings = Settings.default
    ∧ (∀ a, t.account a = none) ∧ t.settlements = []
    ∧ t.queue = ⟨[], [], 1, 0, .normal, QueueFlags.none⟩
    ∧ (let pins := Config.ratePins s.port.resets
      t.port = ⟨pins.1, pins.2, rateOf pins.1 pins.2, ⟨none, 0, false⟩, none, false, none, .idle, [], none, false,
        s.port.resets + 1⟩)
    ∧ t.part.state = .starting ∧ t.part.day = 0 ∧ t.part.voucherSeq = some 1 ∧ t.part.nextDocket = 1
    ∧ t.part.storeValid = false ∧ t.part.current = none ∧ t.part.save = none ∧ t.part.flags = PartFlags.none
    ∧ (s.part.save = none → t.part.area1 = s.part.area1 ∧ t.part.area2 = s.part.area2)
    ∧ (∀ v, s.part.save = some v → (t.part.area v.target).checkGood = false
        ∧ ∀ x, x ≠ v.target → t.part.area x = s.part.area x)
    ∧ (∀ b u, exec .storeReadDone t = .next u → (t.bay b).enable = u.settings.autopower[b])
    ∧ ∀ b, let y := s.bay b
        let kind : BayKind := if y.kind2.pin = true then .unsupported else if y.kind1.pin = true then .voucher else .cash
        let both := y.seat1.pin = true ∧ y.seat2.pin = true
        t.bay b = {
          seat1 := ⟨y.seat1.pin, y.seat1.pin, 0⟩, seat2 := ⟨y.seat2.pin, y.seat2.pin, 0⟩
          kind1 := Line.steady y.kind1.pin, kind2 := Line.steady y.kind2.pin
          modReady := Line.steady y.modReady.pin, modFault := Line.steady y.modFault.pin
          unitDone := Line.steady y.unitDone.pin
          state := if both then (if kind = .unsupported then .unsupported else .off)
            else if y.seat1.pin = true ∨ y.seat2.pin = true then .misseated else .vacant
          enable := (t.bay b).enable
          kind := if both then some kind else none
          lastFault := none, service := Service.idle, powerTimer := none, stray := 0, flags := BayFlags.none
          rx := ⟨none, 0, false⟩ }

/-- STORE_READ_DONE: a part that is STARTING loads the image R177's table selects, or the defaults with none valid; it enters
CLOSED, STARTED is set, and each bay in OFF with its enable on enters POWERING (R177, R29, R159, R168). That it
does so inside STORE_READ_DONE, its timer counting from that tick, is the model's choice (log entry 32). -/
def Obligations.StoreReadLoadsTheImage : Prop :=
  ∀ s : State, s.part.state = .starting →
    ∃ u : State, exec .storeReadDone s = .next u.transmit ∧ u.part.state = .closed ∧ u.part.flags.started = true
      ∧ Source.part ∈ u.port.attention
      ∧ (s.part.area1.valid = false → s.part.area2.valid = false → u.types = Vector.replicate 24 TypeEntry.default
          ∧ u.settings = Settings.default ∧ u.part.storeValid = false ∧ u.part.current = none)
      ∧ (s.part.area1.valid = true → s.part.area2.valid = false → u.types = s.part.area1.types
          ∧ u.settings = s.part.area1.settings ∧ u.part.storeValid = true ∧ u.part.current = some .first)
      ∧ (s.part.area1.valid = false → s.part.area2.valid = true → u.types = s.part.area2.types
          ∧ u.settings = s.part.area2.settings ∧ u.part.storeValid = true ∧ u.part.current = some .second)
      ∧ (s.part.area1.valid = true → s.part.area2.valid = true →
          let second := s.part.area2.generation = s.part.area1.generation + 1
            ∨ (s.part.area1.generation ≠ s.part.area2.generation + 1
                ∧ s.part.area1.generation.toNat < s.part.area2.generation.toNat)
          u.part.storeValid = true
          ∧ (second → u.types = s.part.area2.types ∧ u.settings = s.part.area2.settings ∧ u.part.current = some .second)
          ∧ (¬ second → u.types = s.part.area1.types ∧ u.settings = s.part.area1.settings ∧ u.part.current = some .first))
      ∧ (∀ b, u.bay b = if (s.bay b).state = .off ∧ (s.bay b).enable = true then
          { s.bay b with state := .powering, powerTimer := some (s.tick + 800) } else s.bay b)
      ∧ u.lanes = s.lanes ∧ u.accounts = s.accounts ∧ u.queue = s.queue ∧ u.settlements = s.settlements ∧ u.tick = s.tick

/-- CONFIG_SAVE is refused BUSY during a save, and otherwise accepted: the image of the working table and configuration goes to
the area that is not current, or the first, under the next generation number, or 0 (R182). SAVE_COMPLETE with a good read-back
makes the written area current and sets SAVE_DONE; with a bad one it leaves that area with an incorrect check and sets
SAVE_FAILED (R182). With no save in progress SAVE_COMPLETE does nothing, the model's choice (log entry 15). -/
def Obligations.SavingWritesTheOtherArea : Prop :=
  ∀ s : State,
    (s.free → s.part.state ≠ .starting → s.part.save = none →
      exec .configSave s = .next (State.answered .configSave .accepted [] { s.heard with part := { s.part with
        save := some
          { target := if s.part.current = some .first then .second else .first
            image := ⟨true, Config.formatRevision, match s.part.current with
              | some .first => s.part.area1.generation + 1
              | some .second => s.part.area2.generation + 1
              | none => 0, s.types, s.settings⟩ } } }).transmit)
    ∧ (s.free → s.part.state ≠ .starting → s.part.save ≠ none →
        exec .configSave s = .next (s.heard.answered .configSave .busy []).transmit)
    ∧ (∀ v, s.part.save = some v →
        exec (.saveComplete true) s = .next (State.join .part { s with part := { s.part with
          area1 := if v.target = .first then v.image else s.part.area1
          area2 := if v.target = .second then v.image else s.part.area2
          current := some v.target, save := none, flags := { s.part.flags with saveDone := true } } }).transmit)
    ∧ (∀ v, s.part.save = some v →
        exec (.saveComplete false) s = .next (State.join .part { s with part := { s.part with
          area1 := if v.target = .first then { v.image with checkGood := false } else s.part.area1
          area2 := if v.target = .second then { v.image with checkGood := false } else s.part.area2
          save := none, flags := { s.part.flags with saveFailed := true } } }).transmit)
    ∧ ∀ good, s.part.save = none → exec (.saveComplete good) s = .next s.transmit

/-- DAY_OPEN in CLOSED: a day number of 0 is refused RANGE; any other opens the day, sets the voucher sequence to 1 and makes
the part OPEN (R178). DAY_CLOSE in OPEN: refused PENDING_ITEMS while any docket or pending order exists; otherwise every
slot's paid today becomes 0 and the part is CLOSED (R179, R110). PART_RESET is refused PENDING_ITEMS on the same condition, then
BUSY during a save; an accepted one changes nothing but that the part waits for its reply's last byte (R183). -/
def Obligations.YardDayAndPartReset : Prop :=
  (∀ s : State, s.free →
     (s.part.state = .closed → ∀ day, day ≠ 0 →
       exec (.dayOpen day) s = .next (State.answered (.dayOpen day) .ok (le2 day) { s.heard with part := { s.part with
         day := day, voucherSeq := some 1, state := .opened } }).transmit)
     ∧ (s.part.state = .closed → exec (.dayOpen 0) s = .next (s.heard.answered (.dayOpen 0) .range []).transmit)
     ∧ (s.part.state = .opened → (∀ i, (s.lane i).docket = none) → s.queue.orders = [] →
         exec .dayClose s = .next (State.answered .dayClose .ok [] { s.heard with
           accounts := s.accounts.map fun a => a.map fun a => { a with paidToday := 0 }
           part := { s.part with state := .closed } }).transmit)
     ∧ (s.part.state = .opened → ((∃ i, (s.lane i).docket ≠ none) ∨ s.queue.orders ≠ []) →
         exec .dayClose s = .next (s.heard.answered .dayClose .pendingItems []).transmit))
  ∧ ∀ s : State, s.free → s.part.state ≠ .starting →
      (((∃ i, (s.lane i).docket ≠ none) ∨ s.queue.orders ≠ []) →
        exec .partReset s = .next (s.heard.answered .partReset .pendingItems []).transmit)
      ∧ ((∀ i, (s.lane i).docket = none) → s.queue.orders = [] → s.part.save ≠ none →
          exec .partReset s = .next (s.heard.answered .partReset .busy []).transmit)
      ∧ ((∀ i, (s.lane i).docket = none) → s.queue.orders = [] → s.part.save = none →
          exec .partReset s = .next (State.answered .partReset .ok [] { s.heard with port := { s.heard.port with
            resetPending := true } }).transmit)

/-- CONFIG_WRITE of the 36 items CONFIG_READ sends for a configuration in range makes that configuration the working one,
with no lane, order or save in the way: every field's code, index, value and range is read as it is sent (R180, R181). -/
def Obligations.ConfigWritesWhatItReads : Prop :=
  ∀ (g : Settings) (s : State), s.free → s.part.state ≠ .starting → s.part.save = none → (∀ i, (s.lane i).state = .off) →
    (∀ i, (s.lane i).docket = none) → s.queue.orders = [] → s.queue.commitments = 0 → s.queue.pressure = .normal →
    (∀ i : LaneId, 100 ≤ g.lanes[i].dAB ∧ g.lanes[i].dAB ≤ 2000 ∧ 100 ≤ g.lanes[i].dBG ∧ g.lanes[i].dBG ≤ 4000
      ∧ -63 ≤ g.lanes[i].trim ∧ g.lanes[i].trim ≤ 63 ∧ 4 ≤ g.lanes[i].throwSteps ∧ g.lanes[i].throwSteps ≤ 64
      ∧ 2 ≤ g.lanes[i].stepPeriod ∧ g.lanes[i].stepPeriod ≤ 20) →
    10 ≤ g.quietTime → g.quietTime ≤ 600 → g.autoClose ≤ 60 → 2 ≤ g.jamTime → g.jamTime ≤ 60 → 1 ≤ g.cashUnit →
    g.cashUnit ≤ 10000 → g.highMark ≤ 16 → g.lowMark < g.highMark → 2 ≤ g.highMark →
    ∃ u : State, exec (.configWrite g.items) s = .next (u.answered (.configWrite g.items) .ok []).transmit
      ∧ u.settings = g ∧ u.types = s.types ∧ u.accounts = s.accounts ∧ u.queue = s.queue ∧ u.part = s.part
      ∧ u.bays = s.bays ∧ u.settlements = s.settlements ∧ u.port = s.heard.port
      ∧ ∀ i, u.lane i = { s.lane i with diverter := { (s.lane i).diverter with
          phaseIndex := (s.lane i).diverter.phaseIndex % g.lanes[i].mode.patternLength } }

/-- A CONFIG_WRITE is refused by the first of R181's conditions that holds, with the position of the item that gave it: RANGE for
a bad code, index or value or a field named twice (the position of the first such item, log entry 17); RANGE when it would leave
LOW_MARK at or above HIGH_MARK, at the last mark; IN_USE for a lane's geometry or drive while the lane is not OFF and for
CASH_UNIT while a CASH order is pending or a CASH docket exists; BUSY during a save, with a position the rule does not state (log
entry 17). Otherwise every item is written, a drive mode takes its lane's phase index modulo its pattern length, and a mark
re-evaluates the pressure once. Of one item it says the same in fewer words (R52, R132, R134, R180, R181). -/
def Obligations.ConfigWriteChecksInOrder : Prop :=
  (∀ (c : ConfigItem) (s : State), s.free → s.part.state ≠ .starting →
    (settingOf c = none → exec (.configWrite [c]) s = .next (s.heard.answered (.configWrite [c]) .range [0]).transmit)
    ∧ ∀ x, settingOf c = some x →
      ((x.apply s.settings).highMark ≤ (x.apply s.settings).lowMark →
        exec (.configWrite [c]) s = .next (s.heard.answered (.configWrite [c]) .range [0]).transmit)
      ∧ ((x.apply s.settings).lowMark < (x.apply s.settings).highMark →
          ((∃ i, x.guardedLane = some i ∧ (s.lane i).state ≠ .off)
            ∨ ((∃ v, x = .cashUnit v) ∧ ((∃ o ∈ s.queue.orders, o.method = .cash) ∨ ∃ d ∈ s.dockets, d.method = .cash))) →
          exec (.configWrite [c]) s = .next (s.heard.answered (.configWrite [c]) .inUse [0]).transmit)
      ∧ ((x.apply s.settings).lowMark < (x.apply s.settings).highMark → (∀ i, x.guardedLane = some i → (s.lane i).state = .off) →
          (∀ v, x = .cashUnit v → (∀ o ∈ s.queue.orders, o.method ≠ .cash) ∧ ∀ d ∈ s.dockets, d.method ≠ .cash) →
          (s.part.save ≠ none → ∃ k, exec (.configWrite [c]) s = .next (s.heard.answered (.configWrite [c]) .busy [k]).transmit)
          ∧ (s.part.save = none → x.isMark = false → (∀ i m, x ≠ .mode i m) →
              exec (.configWrite [c]) s = .next
                (State.answered (.configWrite [c]) .ok [] { s.heard with settings := x.apply s.settings }).transmit)
          ∧ (s.part.save = none → x.isMark = true →
              exec (.configWrite [c]) s = .next (State.answered (.configWrite [c]) .ok []
                (State.evaluatePressure { s.heard with settings := x.apply s.settings })).transmit)
          ∧ ∀ i m, s.part.save = none → x = .mode i m →
              exec (.configWrite [c]) s = .next (State.answered (.configWrite [c]) .ok []
                (State.modDiverter i (fun v => { v with phaseIndex := v.phaseIndex % m.patternLength })
                  { s.heard with settings := x.apply s.settings })).transmit))
  ∧ ∀ (items : List ConfigItem) (s : State), s.free → s.part.state ≠ .starting → 1 ≤ items.length → items.length ≤ 62 →
    let c := Instr.configWrite items
    let r := Request.configWrite items
    let bad (xs : List ConfigItem) (x : ConfigItem) : Prop :=
      settingOf x = none ∨ ∃ y ∈ xs, y.code = x.code ∧ y.index = x.index
    (∀ xs x ys, items = xs ++ x :: ys → bad xs x → (∀ us u vs, xs = us ++ u :: vs → ¬ bad us u) →
      exec c s = .next (s.heard.answered r .range [byteOf xs.length]).transmit)
    ∧ ∀ xs : List Setting, items.map settingOf = xs.map some → (items.map fun c => (c.code, c.index)).Nodup →
      let after := xs.foldl (fun g x => x.apply g) s.settings
      let guarded (x : Setting) : Prop := (∃ i, x.guardedLane = some i ∧ (s.lane i).state ≠ .off)
        ∨ ((∃ v, x = .cashUnit v) ∧ ((∃ o ∈ s.queue.orders, o.method = .cash) ∨ ∃ d ∈ s.dockets, d.method = .cash))
      (after.highMark ≤ after.lowMark → ∀ ys x zs, xs = ys ++ x :: zs → x.isMark = true → (∀ z ∈ zs, z.isMark = false) →
        exec c s = .next (s.heard.answered r .range [byteOf ys.length]).transmit)
      ∧ (after.lowMark < after.highMark → ∀ ys x zs, xs = ys ++ x :: zs → guarded x → (∀ y ∈ ys, ¬ guarded y) →
        exec c s = .next (s.heard.answered r .inUse [byteOf ys.length]).transmit)
      ∧ (after.lowMark < after.highMark → (∀ x ∈ xs, ¬ guarded x) →
        (s.part.save ≠ none → ∃ k, exec c s = .next (s.heard.answered r .busy [k]).transmit)
        ∧ (s.part.save = none → ∃ lanes : Vector Lane 4,
          let written : State := { s.heard with settings := after, lanes := lanes }
          (∀ i, (∀ m, .mode i m ∈ xs → written.lane i = { s.lane i with diverter := { (s.lane i).diverter with
              phaseIndex := (s.lane i).diverter.phaseIndex % match m with | .half => 8 | _ => 4 } })
            ∧ ((∀ m, .mode i m ∉ xs) → written.lane i = s.lane i))
          ∧ exec c s = .next (State.answered r .ok []
            (if ∃ x ∈ xs, x.isMark = true then written.evaluatePressure else written)).transmit))

/-! ### The lanes -/

/-- The input lines on a tick. A filter's level becomes the other when at least two of its last three samples show it (R1); the
debounced DAMAGE level follows once the filtered level has differed for 20 ms, 80 ticks (R3), and a seat contact once its sampled
level has differed for 50 ms, 200 ticks (R143; log entry 14). An accepted edge on an idle tick acts as its command does, and a
bay meets its module's levels as their commands say (R144). A line that an edge command without a command for its return has
asserted shows its quiet level again from the next sample on (log entry 8). -/
def Obligations.InputLinesAreFiltered : Prop :=
  (∀ l : Line, l.sample = ⟨l.pin, l.pin, l.s0, l.s1,
      if 2 ≤ ([l.pin, l.s0, l.s1].filter fun x => x ≠ l.level).length then !l.level else l.level⟩)
  ∧ (∀ b, (Line.passing b).level = b ∧ (Line.passing b).sample.level = b ∧ (Line.passing b).sample.sample.level = !b
      ∧ (Line.passing b).sample.sample.sample = Line.steady (!b))
  ∧ (∀ d : DamageInput, let line := d.line.sample
      (line.level = d.pressed → d.sample = ⟨line, d.pressed, 0⟩)
      ∧ (line.level ≠ d.pressed → d.held < 80 → d.sample = ⟨line, d.pressed, d.held + 1⟩)
      ∧ (line.level ≠ d.pressed → 80 ≤ d.held → d.sample = ⟨line, !d.pressed, 0⟩))
  ∧ (∀ c : SeatContact, (c.pin = c.level → c.sample = ⟨c.pin, c.level, 0⟩)
      ∧ (c.pin ≠ c.level → c.held < 200 → c.sample = ⟨c.pin, c.level, c.held + 1⟩)
      ∧ (c.pin ≠ c.level → 200 ≤ c.held → c.sample = ⟨c.pin, c.pin, 0⟩))
  ∧ (∀ (p : Bool) (n : Nat),
      (n ≤ 82 → (DamageInput.sample^[n] ⟨{ Line.steady p with pin := !p }, p, 0⟩).pressed = if n = 82 then !p else p)
      ∧ (n ≤ 201 → (SeatContact.sample^[n] ⟨!p, p, 0⟩).level = if n = 201 then !p else p))
  ∧ (∀ (i : LaneId) (s : State),
    let old := s.lane i
    let new := old.sample
    let u := s.modLane i Lane.sample
    let neck := old.neck.level = false ∧ new.neck.level = true
    let press := old.damage.pressed = false ∧ new.damage.pressed = true
    new = { old with
      beamA := old.beamA.sample, beamB := old.beamB.sample, neck := old.neck.sample, damage := old.damage.sample
      diverter := { old.diverter with home := old.diverter.home.sample } }
    ∧ (new.beamA.level = old.beamA.level → new.beamB.level = old.beamB.level → ¬ neck → ¬ press → s.sampleLane i = u)
    ∧ (new.beamA.level ≠ old.beamA.level → new.beamB.level = old.beamB.level → ¬ neck → ¬ press →
        s.sampleLane i = u.edgeA i new.beamA.level)
    ∧ (new.beamA.level = old.beamA.level → new.beamB.level ≠ old.beamB.level → ¬ neck → ¬ press →
        s.sampleLane i = u.edgeB i new.beamB.level)
    ∧ (new.beamA.level = old.beamA.level → new.beamB.level = old.beamB.level → neck → ¬ press →
        s.sampleLane i = u.edgeNeck i)
    ∧ (new.beamA.level = old.beamA.level → new.beamB.level = old.beamB.level → ¬ neck → press → s.sampleLane i = u.press i)
    ∧ ∀ (t : Tick) (on : Bool),
      (old.beamA.level = !on → exec (if on then .aOn i t else .aOff i t) s = .next (State.edgeA i on
        ((s.at t).modLane i fun l => { l with beamA := Line.steady on })).transmit)
      ∧ (old.beamB.level = !on → exec (if on then .bOn i t else .bOff i t) s = .next (State.edgeB i on
        ((s.at t).modLane i fun l => { l with beamB := Line.steady on })).transmit)
      ∧ exec (.neckEdge i t) s = .next (State.edgeNeck i
        ((s.at t).modLane i fun l => { l with neck := Line.passing true })).transmit
      ∧ (old.damage.pressed = false → exec (.damagePress i t) s = .next (State.press i
        ((s.at t).modLane i fun l => { l with damage := DamageInput.steady true })).transmit))
  ∧ ∀ (b : BayId) (s : State),
    let old := s.bay b
    let new := old.sample
    let u := s.modBay b Bay.sample
    let was := old.seat1.level && old.seat2.level
    let seat := new.seat1.level ≠ old.seat1.level ∨ new.seat2.level ≠ old.seat2.level
    let unit := old.unitDone.level = false ∧ new.unitDone.level = true
    new = { old with
      seat1 := old.seat1.sample, seat2 := old.seat2.sample, kind1 := old.kind1.sample, kind2 := old.kind2.sample
      modReady := old.modReady.sample, modFault := old.modFault.sample, unitDone := old.unitDone.sample }
    ∧ (¬ seat → ¬ unit → s.sampleBay b = u.moduleLevels b)
    ∧ (seat → ¬ unit → s.sampleBay b = (u.followSeats b was).moduleLevels b)
    ∧ (¬ seat → unit → s.sampleBay b = (u.confirmation b).moduleLevels b)
    ∧ (∀ t, exec (.unitDone b t) s = .next (State.confirmation b
        ((s.at t).modBay b fun y => { y with unitDone := Line.passing true })).transmit)
    ∧ (∀ t c1 k1 k2, old.seat1.level = !c1 → exec (.seatChange b 0 c1 k1 k2 t) s = .next (State.followSeats b was
        ((s.at t).modBay b fun y => { y with
          seat1 := ⟨c1, c1, 0⟩, kind1 := Line.steady k1, kind2 := Line.steady k2 })).transmit)
    ∧ (∀ t c2 k1 k2, old.seat2.level = !c2 → exec (.seatChange b 1 c2 k1 k2 t) s = .next (State.followSeats b was
        ((s.at t).modBay b fun y => { y with
          seat2 := ⟨c2, c2, 0⟩, kind1 := Line.steady k1, kind2 := Line.steady k2 })).transmit)
    ∧ ∀ r f, old.modReady = Line.steady r → old.modFault = Line.steady f →
      let served := old.state = .ready ∨ old.state = .serving ∨ old.state = .stopping
      (served ∨ old.state = .starting → f = true →
        exec (.modFaultAsserted b s.tick) s = .next (s.moduleLevels b).transmit)
      ∧ (served → f = false → r = false → exec (.modReadyReleased b s.tick) s = .next (s.moduleLevels b).transmit)
      ∧ (old.state = .starting → f = false → r = true →
        exec (.modReadyAsserted b s.tick) s = .next (s.moduleLevels b).transmit)
      ∧ (served → f = false → r = true → s.moduleLevels b = s)
      ∧ (old.state = .starting → f = false → r = false → s.moduleLevels b = s)
      ∧ (¬ served → old.state ≠ .starting → s.moduleLevels b = s)

/-- The output lines follow the state: BELT on in RUNNING; PH0 to PH3 the drive mode's pattern at the phase index in HOMING and
RUNNING and off in OFF and HELD; BAY_PWR on from POWERING through STOPPING; MOD_RST low in POWERING; UNIT_REQ asserted during a
pulse; DOCK_WAIT on while the pressure is HIGH; and the line's rate as the RATE pins were at reset (R38, R40, R55, R132, R145,
R150, R160). TXD and BAY_TX carry the bytes of a frame as characters back to back, each a low start bit, eight data bits, least
significant first, and a high stop bit, and are high otherwise; a receiver whose samples are those levels reads the byte (R160).
Each bit is the majority of its three samples: a start bit that is not low is dropped, a stop bit that is low is a framing error,
and any other character is the byte of its data bits (R5, R154).
That the lines are computed and their bit cells counted is the model's choice (log entries 11 and 29). -/
def Obligations.OutputLinesFollowTheState : Prop :=
  (∀ s : State,
    (∀ i, (s.belt i = true ↔ (s.lane i).state = .running)
      ∧ ((s.lane i).state = .off ∨ (s.lane i).state = .held → s.phaseLines i = [false, false, false, false])
      ∧ ((s.lane i).state = .homing ∨ (s.lane i).state = .running →
        let at' (table : List (List Bool)) : Prop :=
          ∀ row, table[(s.lane i).diverter.phaseIndex]? = some row → s.phaseLines i = row
        (s.settings.lanes[i].mode = .single → at' [[true, false, false, false], [false, true, false, false],
          [false, false, true, false], [false, false, false, true]])
        ∧ (s.settings.lanes[i].mode = .double → at' [[true, true, false, false], [false, true, true, false],
          [false, false, true, true], [true, false, false, true]])
        ∧ (s.settings.lanes[i].mode = .half → at' [[true, false, false, false], [true, true, false, false],
          [false, true, false, false], [false, true, true, false], [false, false, true, false], [false, false, true, true],
          [false, false, false, true], [true, false, false, true]])))
    ∧ (∀ b, (s.bayPower b = true ↔ (s.bay b).state = .powering ∨ (s.bay b).state = .starting ∨ (s.bay b).state = .ready
        ∨ (s.bay b).state = .serving ∨ (s.bay b).state = .stopping)
      ∧ (s.moduleReset b = true ↔ (s.bay b).state = .powering)
      ∧ (s.unitRequest b = true ↔ ∃ e, (s.bay b).service.pulse = some e))
    ∧ (s.dockWait = true ↔ s.queue.pressure = .high)
    ∧ let carries (line : Nat → Bool) (bytes : List Byte) : Prop :=
        (∀ n x, bytes[n]? = some x → line (10 * n) = false ∧ (∀ k < 8, line (10 * n + 1 + k) = x.getLsbD k)
          ∧ line (10 * n + 9) = true)
        ∧ ∀ k, 10 * bytes.length ≤ k → line k = true
      (s.port.sending = .idle → carries s.txd [])
      ∧ (∀ bytes, s.port.sending = .reply bytes ∨ s.port.sending = .notice bytes → carries s.txd bytes)
      ∧ ∀ b, carries (s.bayTx b) (s.bay b).service.printFrame)
  ∧ (∀ rate1 rate0, (rateOf rate1 rate0).bitsPerSecond =
      if rate1 then (if rate0 then 115200 else 57600) else (if rate0 then 19200 else 9600))
  ∧ (∀ (cells : Cells) (x : Byte), (∀ j < 3, cells.getLsbD j = false) → (∀ k < 8, ∀ j < 3,
      cells.getLsbD (3 * (k + 1) + j) = x.getLsbD k) → (∀ j < 3, cells.getLsbD (27 + j) = true) →
    readCharacter cells = .byte x)
  ∧ ∀ cells : Cells,
    let high (k : Nat) : Prop := 2 ≤ ([0, 1, 2].filter fun j => cells.getLsbD (3 * k + j)).length
    (high 0 → readCharacter cells = .dropped)
    ∧ (¬ high 0 → ¬ high 9 → readCharacter cells = .framingError)
    ∧ (¬ high 0 → high 9 → ∃ x : Byte, readCharacter cells = .byte x ∧ ∀ k < 8, (x.getLsbD k = true ↔ high (k + 1)))

/-- A_ON and A_OFF. An edge of beam A outside RUNNING changes the accepted level and stops the jam timer, no more; in RUNNING an
A_on with room in the span list appends a new record, starts the jam timer, wakes an OPEN or QUIET docket and starts its quiet
timer afresh; an A_off goes to the newest record whose A is on and not yet off, and to none when there is none (R2, R8, R9, R10,
R18, R65, R66). A command for the level the beam already has is no edge (log entry 7). -/
def Obligations.BeamAEdges : Prop :=
  ∀ (i : LaneId) (t : Tick) (s : State),
    ((s.lane i).beamA.level = true → exec (.aOn i t) s = .next (s.at t).transmit)
    ∧ ((s.lane i).beamA.level = false → exec (.aOff i t) s = .next (s.at t).transmit)
    ∧ ((s.lane i).beamA.level = false → (s.lane i).state ≠ .running →
        exec (.aOn i t) s = .next ((s.at t).modLane i fun l => { l with beamA := Line.steady true, jamA := none }).transmit)
    ∧ ((s.lane i).beamA.level = true → (s.lane i).state ≠ .running →
        exec (.aOff i t) s = .next ((s.at t).modLane i fun l => { l with beamA := Line.steady false, jamA := none }).transmit)
    ∧ ((s.lane i).beamA.level = false → (s.lane i).state = .running → (s.lane i).span.length < 2 →
        exec (.aOn i t) s = .next ((s.at t).modLane i fun l => { l with
          beamA := Line.steady true
          jamA := some (t + BitVec.ofNat 32 (s.settings.jamTime * 4000))
          span := l.span ++ [{ seq := l.nextSeq, tAOn := t, tAOff := none, tBOn := none, tBOff := none, length := none
                               speed := none, tag := none, necks := 0, damaged := false, unsteady := none
                               disposition := none, gateArrival := none, gateClear := none, committed := false
                               entry := none }]
          nextSeq := if l.nextSeq < 65535 then l.nextSeq + 1 else 0
          docket := l.docket.map fun d => if d.state = .closing then d else { d with state := .opened }
          quietTimer := if l.docket.any (·.state ≠ .closing)
            then some (t + BitVec.ofNat 32 (s.settings.quietTime * 4000)) else l.quietTimer
          autoCloseTimer := if l.docket.any (·.state ≠ .closing) then none else l.autoCloseTimer }).transmit)
    ∧ ((s.lane i).beamA.level = true → (s.lane i).state = .running →
        (∀ xs p ys, (s.lane i).span = xs ++ p :: ys → p.tAOff = none → (∀ q ∈ ys, q.tAOff ≠ none) →
          exec (.aOff i t) s = .next ((s.at t).modLane i fun l => { l with
            beamA := Line.steady false, jamA := none, span := xs ++ { p with tAOff := some t } :: ys }).transmit)
        ∧ ((∀ q ∈ (s.lane i).span, q.tAOff ≠ none) →
          exec (.aOff i t) s = .next ((s.at t).modLane i fun l => { l with
            beamA := Line.steady false, jamA := none }).transmit))

/-- B_ON. Outside RUNNING the level changes and the jam timer stops, no more; in RUNNING the oldest record without tB_on takes
the edge: the travel outside D_AB x 2 to D_AB x 80 ticks marks it unsteady with reason SPEED, and the gate arrival is tB_on
plus the gate offset, travel x D_BG / D_AB rounded down and at most 2^31 - 1 (R2, R11, R14, R18). A command for the level
the beam already has is no edge, the model's choice (log entry 7). -/
def Obligations.BeamBLeadingEdge : Prop :=
  ∀ (i : LaneId) (t : Tick) (s : State),
    ((s.lane i).beamB.level = true → exec (.bOn i t) s = .next (s.at t).transmit)
    ∧ ((s.lane i).beamB.level = false → (s.lane i).state ≠ .running →
        exec (.bOn i t) s = .next ((s.at t).modLane i fun l => { l with beamB := Line.steady true, jamB := none }).transmit)
    ∧ ((s.lane i).beamB.level = false → (s.lane i).state = .running → ∀ xs p ys,
        (s.lane i).span = xs ++ p :: ys → (∀ q ∈ xs, q.tBOn ≠ none) → p.tBOn = none →
        let g := s.settings.lanes[i]
        let travel := Tick.since t p.tAOn
        exec (.bOn i t) s = .next ((s.at t).modLane i fun l => { l with
          beamB := Line.steady true
          jamB := some (t + BitVec.ofNat 32 (s.settings.jamTime * 4000))
          span := xs ++ { p with
            tBOn := some t
            unsteady := if g.dAB * 2 ≤ travel ∧ travel ≤ g.dAB * 80 then p.unsteady else some .speed
            gateArrival := some (t + BitVec.ofNat 32 (min (travel * g.dBG / g.dAB) (2 ^ 31 - 1))) } :: ys }).transmit)

/-- B_OFF. Outside RUNNING, and with no record under beam B, the level changes and the jam timer stops, no more. The record
under beam B that has its tA_off is measured: its length is occA x D_AB / travel rounded to the nearest, halves up, plus the
trim, clamped to 0 to 4095 (a travel of 0 is taken as 1 in both divisions); its speed is D_AB x 4000 / travel rounded down; 8 x
|occB - occA| > occA marks it UNSTEADY unless it is marked; its gate clear is its gate arrival plus occA. It leaves the span
list, is classified, and joins the end of the travel queue: refused with its reason, which is remembered and reported, or
accepted with its place reserved (R2, R12, R15, R16, R17, R18, R36, R37). A move may then begin (R46, the statement
PaddleMovesTowardTheTarget). A command for the level the beam already has is no edge, the model's choice (log entry 7). -/
def Obligations.BeamBTrailingEdge : Prop :=
  ∀ (i : LaneId) (t : Tick) (s : State),
    ((s.lane i).beamB.level = false → exec (.bOff i t) s = .next (s.at t).transmit)
    ∧ ((s.lane i).beamB.level = true →
        (s.lane i).state ≠ .running ∨ (∀ q ∈ (s.lane i).span, q.tBOn = none ∨ q.tBOff ≠ none) →
        exec (.bOff i t) s = .next ((s.at t).modLane i fun l => { l with beamB := Line.steady false, jamB := none }).transmit)
    ∧ ((s.lane i).beamB.level = true → (s.lane i).state = .running → (s.lane i).travel.length < 4 →
        ∀ xs p ys aOff bOn, (s.lane i).span = xs ++ p :: ys → (∀ q ∈ xs, q.tBOn = none ∨ q.tBOff ≠ none) →
        p.tBOn = some bOn → p.tBOff = none → p.tAOff = some aOff →
        let g := s.settings.lanes[i]
        let travel := max 1 (Tick.since bOn p.tAOn)
        let occA := Tick.since aOff p.tAOn
        let occB := Tick.since t bOn
        let q : Passage := { p with
          tBOff := some t
          length := some (min 4095 (((2 * occA * g.dAB + travel) / (2 * travel) : Nat) + g.trim).toNat)
          speed := some (g.dAB * 4000 / travel)
          unsteady := p.unsteady.or
            (if occA < 8 * (occB - occA) ∨ occA < 8 * (occA - occB) then some .unsteady else none)
          gateClear := p.gateArrival.map (· + BitVec.ofNat 32 occA) }
        (∀ r, classifyKey s.types (s.lane i).docket q = .error r →
          exec (.bOff i t) s = .next (State.tryMove i (State.join (.lane i) ((s.at t).modLane i fun l => { l with
            beamB := Line.steady false
            jamB := none
            span := xs ++ ys
            travel := l.travel ++ [{ q with disposition := some (.refuse r) }]
            lastRefuse := some r
            flags := { l.flags with refused := true, docketFull := l.flags.docketFull || r = .docketFull } }))).transmit)
        ∧ (∀ k d, classifyKey s.types (s.lane i).docket q = .ok k → (s.lane i).docket = some d →
            (d.reserve k = none →
              exec (.bOff i t) s = .next (State.tryMove i (State.join (.lane i) ((s.at t).modLane i fun l => { l with
                beamB := Line.steady false
                jamB := none
                span := xs ++ ys
                travel := l.travel ++ [{ q with disposition := some (.refuse .docketFull) }]
                lastRefuse := some .docketFull
                flags := { l.flags with refused := true, docketFull := true } }))).transmit)
            ∧ ∀ d' n, d.reserve k = some (d', n) →
              exec (.bOff i t) s = .next (State.tryMove i ((s.at t).modLane i fun l => { l with
                beamB := Line.steady false
                jamB := none
                span := xs ++ ys
                travel := l.travel ++ [{ q with disposition := some (.accept k.type k.condition k.bottles), entry := some n }]
                docket := some d' })).transmit))

/-- NECK_EDGE, DAMAGE_PRESS and DAMAGE_RELEASE. A neck edge in RUNNING adds 1 to the neck count of the record under beam B,
which stops at 255, and is ignored with none there or outside RUNNING; a press marks the oldest record of the span list
damaged, or sets DAMAGE_IGNORED when the list is empty; a release changes the debounced level alone (R2, R3, R4, R13). A
command for the level DAMAGE already has is no press (log entry 7). NECK_EDGE counts whatever level was tracked, since the table
has no row for the change back to clear, and the beam is clear again from the next sample on (log entry 8): both are the
model's choices. -/
def Obligations.NecksAndDamage : Prop :=
  ∀ (i : LaneId) (t : Tick) (s : State),
    ((s.lane i).state ≠ .running ∨ (∀ q ∈ (s.lane i).span, q.tBOn = none ∨ q.tBOff ≠ none) →
      exec (.neckEdge i t) s = .next ((s.at t).modLane i fun l => { l with neck := Line.passing true }).transmit)
    ∧ ((s.lane i).state = .running → ∀ xs p ys, (s.lane i).span = xs ++ p :: ys →
        (∀ q ∈ xs, q.tBOn = none ∨ q.tBOff ≠ none) → p.tBOn ≠ none → p.tBOff = none → p.necks ≤ 255 →
        exec (.neckEdge i t) s = .next ((s.at t).modLane i fun l => { l with
          neck := Line.passing true
          span := xs ++ { p with necks := if p.necks = 255 then 255 else p.necks + 1 } :: ys }).transmit)
    ∧ ((s.lane i).damage.pressed = true → exec (.damagePress i t) s = .next (s.at t).transmit)
    ∧ ((s.lane i).damage.pressed = false → ∀ p ps, (s.lane i).span = p :: ps →
        exec (.damagePress i t) s = .next ((s.at t).modLane i fun l => { l with
          damage := DamageInput.steady true, span := { p with damaged := true } :: ps }).transmit)
    ∧ ((s.lane i).damage.pressed = false → (s.lane i).span = [] →
        exec (.damagePress i t) s = .next (State.join (.lane i) ((s.at t).modLane i fun l => { l with
          damage := DamageInput.steady true, flags := { l.flags with damageIgnored := true } })).transmit)
    ∧ ((s.lane i).damage.pressed = true →
        exec (.damageRelease i t) s = .next ((s.at t).modLane i fun l => { l with
          damage := DamageInput.steady false }).transmit)
    ∧ ((s.lane i).damage.pressed = false → exec (.damageRelease i t) s = .next (s.at t).transmit)

/-- TAG_BYTE and TAG_ASSEMBLY_TIMEOUT. A byte joins the report being assembled when it began at most 5 ms (20 ticks) after the
last stop bit, and begins a new one otherwise; a framing error discards the report; the fourth byte completes it. A report
whose four bytes sum to 0 modulo 256 and whose type code is not 0 becomes the tag of the oldest record of the span list that
has none, or sets TAG_IGNORED; any other is discarded (R5, R6, R7). A start bit that is not accepted changes nothing in the report
(R5). The gap alone discards a partial report, on the tick it ends (R6; log entry 2), and with no report begun
TAG_ASSEMBLY_TIMEOUT does nothing (log entry 15). -/
def Obligations.TagReports : Prop :=
  ∀ (i : LaneId) (start t : Tick) (c : Cells) (b : Byte) (s : State),
    (readCharacter c = .framingError →
      exec (.tagByte i start t c) s = .next ((s.at t).modLane i fun l => { l with tagRx := ⟨[], t, true⟩ }).transmit)
    ∧ (readCharacter c = .byte b → (s.lane i).tagRx.bytes.length < 3 → Tick.since start (s.lane i).tagRx.lastStop ≤ 20 →
        exec (.tagByte i start t c) s = .next ((s.at t).modLane i fun l => { l with
          tagRx := ⟨l.tagRx.bytes ++ [b], t, false⟩ }).transmit)
    ∧ (readCharacter c = .byte b → 20 < Tick.since start (s.lane i).tagRx.lastStop →
        exec (.tagByte i start t c) s = .next ((s.at t).modLane i fun l => { l with tagRx := ⟨[b], t, false⟩ }).transmit)
    ∧ (readCharacter c = .byte b → Tick.since start (s.lane i).tagRx.lastStop ≤ 20 →
        ∀ owner lo hi, (s.lane i).tagRx.bytes = [owner, lo, hi] →
        (owner + lo + hi + b ≠ 0 ∨ lo.toNat + 256 * hi.toNat = 0 →
          exec (.tagByte i start t c) s = .next ((s.at t).modLane i fun l => { l with tagRx := ⟨[], t, false⟩ }).transmit)
        ∧ (owner + lo + hi + b = 0 → lo.toNat + 256 * hi.toNat ≠ 0 →
          (∀ xs p ys, (s.lane i).span = xs ++ p :: ys → (∀ q ∈ xs, q.tag ≠ none) → p.tag = none →
            exec (.tagByte i start t c) s = .next ((s.at t).modLane i fun l => { l with
              tagRx := ⟨[], t, false⟩
              span := xs ++ { p with tag := some ⟨owner.toNat, lo.toNat + 256 * hi.toNat⟩ } :: ys }).transmit)
          ∧ ((∀ q ∈ (s.lane i).span, q.tag ≠ none) →
            exec (.tagByte i start t c) s = .next (State.join (.lane i) ((s.at t).modLane i fun l => { l with
              tagRx := ⟨[], t, false⟩, flags := { l.flags with tagIgnored := true } })).transmit)))
    ∧ (readCharacter c = .dropped →
        exec (.tagByte i start t c) s = .next ((s.at t).modLane i fun l => { l with
          tagRx := { l.tagRx with waitHigh := false } }).transmit)
    ∧ ((s.lane i).tagRx.bytes ≠ [] →
        exec (.tagAssemblyTimeout i) s = .next ((s.reach ((s.lane i).tagRx.lastStop + 20)).modLane i fun l => { l with
          tagRx := { l.tagRx with bytes := [] } }).transmit)
    ∧ ((s.lane i).tagRx.bytes = [] → exec (.tagAssemblyTimeout i) s = .next s.transmit)

/-- Every fault of a RUNNING lane holds it with the fault's reason: an A_on with the span list full and a B_off with the travel
queue full, CROWDED; a B_on that matches no record and a B_off whose record has no tA_off, STRAY_AT_B; a jam timer that
expires, JAM. All in flight is voided; a CLOSING docket then settles (R9, R11, R12, R17, R18, R19, R51, R58, R59, R60). In OFF
and HELD a jam timer that expires changes nothing but itself, and JAM with its timer not running does nothing (log entry 15). -/
def Obligations.FaultsHoldTheLane : Prop :=
  ∀ (i : LaneId) (t : Tick) (s : State),
    let heldFrom (u : State) (r : HoldReason) (f : Lane → Lane) : State :=
      State.settleIfClosing i (State.join (.lane i) (u.modLane i fun l => Lane.heldBy r (f l)))
    ((s.lane i).state = .running → (s.lane i).holds = HoldSet.empty →
      ((s.lane i).beamA.level = false → 2 ≤ (s.lane i).span.length →
        exec (.aOn i t) s = .next (heldFrom (s.at t) .crowded fun l => { l with beamA := Line.steady true }).transmit)
      ∧ ((s.lane i).beamB.level = false → (∀ q ∈ (s.lane i).span, q.tBOn ≠ none) →
        exec (.bOn i t) s = .next (heldFrom (s.at t) .strayAtB fun l => { l with beamB := Line.steady true }).transmit)
      ∧ (∀ xs p ys, (s.lane i).beamB.level = true → (s.lane i).span = xs ++ p :: ys →
          (∀ q ∈ xs, q.tBOn = none ∨ q.tBOff ≠ none) → p.tBOn ≠ none → p.tBOff = none →
          (p.tAOff = none →
            exec (.bOff i t) s = .next (heldFrom (s.at t) .strayAtB fun l => { l with beamB := Line.steady false }).transmit)
          ∧ (p.tAOff ≠ none → 4 ≤ (s.lane i).travel.length →
            exec (.bOff i t) s = .next (heldFrom (s.at t) .crowded fun l => { l with beamB := Line.steady false }).transmit))
      ∧ (∀ due, (s.lane i).jamA = some due →
          exec (.jam i .a) s = .next (heldFrom (s.reach due) .jam id).transmit)
      ∧ (∀ due, (s.lane i).jamB = some due →
          exec (.jam i .b) s = .next (heldFrom (s.reach due) .jam id).transmit))
    ∧ (∀ due, (s.lane i).state = .off ∨ (s.lane i).state = .held →
      ((s.lane i).jamA = some due →
        exec (.jam i .a) s = .next ((s.reach due).modLane i fun l => { l with jamA := none }).transmit)
      ∧ ((s.lane i).jamB = some due →
        exec (.jam i .b) s = .next ((s.reach due).modLane i fun l => { l with jamB := none }).transmit))
    ∧ ((s.lane i).jamA = none → exec (.jam i .a) s = .next s.transmit)
    ∧ ((s.lane i).jamB = none → exec (.jam i .b) s = .next s.transmit)

/-- HOMING_STEP_COMPLETE. A completed homing step counts; with DIV_HOME active home is found: position 0, homed, and the lane
enters RUNNING, its jam timers running for blocked beams and its docket's timer started; otherwise a further step toward
ACCEPT begins while the count is below THROW_STEPS + 8, and at that count the lane is held with DIVERTER_HOME (R38, R39, R41,
R42, R43, R57, R65). With no homing step in progress nothing happens (log entry 15). At the entry to HOMING home is found at
once with DIV_HOME active, and the lane enters RUNNING with the same timers (R18, R57); otherwise the homed flag is cleared, the
count restarts and one step toward ACCEPT begins (R41). The level that is read there is the one DIV_HOME's
filter has accepted on the present tick, two of its last three samples (R1): the samples of ticks that commands have passed over
are free, since no command tells them, and the ones the filter holds from before stand, the model's choice (log entry 45). The
level that HOMING_STEP_COMPLETE tells replaces samples that give another (log entries 9 and 45). -/
def Obligations.HomingFindsHome : Prop :=
  ∀ (i : LaneId) (s : State),
    let v := (s.lane i).diverter
    let levels := Config.divHome i s.port.resets
    let pass (w : Diverter) : Diverter := { w with
      home := Line.sample { w.home with pin := levels w.homeReads }, homeReads := w.homeReads + 1 }
    let passed := Tick.since s.tick v.homeTick
    s.startHoming i = State.beginHoming i (s.modLane i fun l => { l with diverter := { pass^[min 3 passed] l.diverter with
      homeTick := s.tick } })
    ∧ (passed = 0 → s.startHoming i = s.beginHoming i)
    ∧ (passed = 1 → v.home.s0 = v.home.s1 → (pass^[min 3 passed] v).home.level = v.home.s0)
    ∧ (passed = 2 → levels v.homeReads = v.home.s0 → (pass^[min 3 passed] v).home.level = v.home.s0)
    ∧ ((s.lane i).diverter.home.level = true →
      s.beginHoming i = s.modLane i fun l => { l with
        state := .running
        diverter := { l.diverter with homed := true, homingCount := 0, position := 0, step := none }
        jamA := if l.beamA.level = true then some (s.tick + BitVec.ofNat 32 (s.settings.jamTime * 4000)) else none
        jamB := if l.beamB.level = true then some (s.tick + BitVec.ofNat 32 (s.settings.jamTime * 4000)) else none
        quietTimer := if l.docket.map Docket.state = some .opened
          then some (s.tick + BitVec.ofNat 32 (s.settings.quietTime * 4000)) else none
        autoCloseTimer := if l.docket.map Docket.state = some .quiet ∧ s.settings.autoClose ≠ 0
          then some (s.tick + BitVec.ofNat 32 (s.settings.autoClose * 240000)) else none })
    ∧ ((s.lane i).diverter.home.level = false →
      let n := match s.settings.lanes[i].mode with | .half => 8 | _ => 4
      s.beginHoming i = s.modLane i fun l => { l with
        state := .homing
        diverter := { l.diverter with
          homed := false
          homingCount := 0
          phaseIndex := (l.diverter.phaseIndex + (n - 1)) % n
          step := some ⟨.accept, s.tick + BitVec.ofNat 32 (s.settings.lanes[i].stepPeriod * 4)⟩ } })
    ∧ (∀ m, (s.lane i).state = .homing → (s.lane i).diverter.step = some m →
      let u := s.reach m.due
      let g := s.settings.lanes[i]
      let n := match g.mode with | .half => 8 | _ => 4
      let count := (s.lane i).diverter.homingCount + 1
      let run : Diverter := pass^[min 3 (Tick.since u.tick v.homeTick)] v
      let told (home : Bool) : Diverter := { run with
        home := if run.home.level = home then run.home else Line.steady home, homeTick := u.tick }
      exec (.homingStepComplete i true) s = .next (u.modLane i fun l => { l with
        state := .running
        diverter := { told true with homingCount := count, step := none, position := 0, homed := true }
        jamA := if l.beamA.level = true then some (u.tick + BitVec.ofNat 32 (s.settings.jamTime * 4000)) else none
        jamB := if l.beamB.level = true then some (u.tick + BitVec.ofNat 32 (s.settings.jamTime * 4000)) else none
        quietTimer := if l.docket.map Docket.state = some .opened
          then some (u.tick + BitVec.ofNat 32 (s.settings.quietTime * 4000)) else none
        autoCloseTimer := if l.docket.map Docket.state = some .quiet ∧ s.settings.autoClose ≠ 0
          then some (u.tick + BitVec.ofNat 32 (s.settings.autoClose * 240000)) else none }).transmit
      ∧ (count < g.throwSteps + 8 →
        exec (.homingStepComplete i false) s = .next (u.modLane i fun l => { l with
          diverter := { told false with
            homingCount := count
            phaseIndex := (l.diverter.phaseIndex + (n - 1)) % n
            step := some ⟨.accept, u.tick + BitVec.ofNat 32 (g.stepPeriod * 4)⟩ } }).transmit)
      ∧ (g.throwSteps + 8 ≤ count → (s.lane i).holds = HoldSet.empty →
        exec (.homingStepComplete i false) s = .next (State.settleIfClosing i (State.join (.lane i)
          (u.modLane i fun l => Lane.heldBy .diverterHome { l with
            diverter := { told false with homingCount := count } }))).transmit))
    ∧ ∀ home, (s.lane i).state ≠ .homing ∨ (s.lane i).diverter.step = none →
        exec (.homingStepComplete i home) s = .next s.transmit

/-- STEP_COMPLETE, and when a move begins. A completed step in RUNNING moves the position by one, and a move may begin. A move
begins, with one step toward the target, exactly when the lane is RUNNING, an uncommitted record is in the travel queue, none
there is committed, no step is in progress, and the paddle is not on the oldest uncommitted record's side; the phase index
moves at once, up toward REFUSE and down toward ACCEPT, modulo the pattern length (R38, R39, R45, R46). STEP_COMPLETE
with no step in progress in RUNNING does nothing, the model's choice (log entry 15). -/
def Obligations.PaddleMovesTowardTheTarget : Prop :=
  ∀ (i : LaneId) (s : State),
    (∀ m, (s.lane i).state = .running → (s.lane i).diverter.step = some m →
      exec (.stepComplete i) s = .next (State.tryMove i ((s.reach m.due).modLane i fun l => { l with
        diverter := { l.diverter with
          position := if m.toward = .refuse then l.diverter.position + 1 else l.diverter.position - 1
          step := none } })).transmit)
    ∧ ((s.lane i).state ≠ .running ∨ (s.lane i).diverter.step = none → exec (.stepComplete i) s = .next s.transmit)
    ∧ ((s.lane i).state ≠ .running ∨ (∃ p ∈ (s.lane i).travel, p.committed = true) ∨ (s.lane i).diverter.step ≠ none
        ∨ (s.lane i).travel = [] → s.tryMove i = s)
    ∧ ∀ p ps d, (s.lane i).state = .running → (s.lane i).travel = p :: ps → (∀ q ∈ p :: ps, q.committed = false) →
        p.disposition = some d → (s.lane i).diverter.step = none →
        let g := s.settings.lanes[i]
        let n := match g.mode with | .half => 8 | _ => 4
        let due := s.tick + BitVec.ofNat 32 (g.stepPeriod * 4)
        ((∃ r, d = .refuse r) → (s.lane i).diverter.position = g.throwSteps → s.tryMove i = s)
        ∧ ((∃ r, d = .refuse r) → (s.lane i).diverter.position ≠ g.throwSteps →
          s.tryMove i = s.modLane i fun l => { l with diverter := { l.diverter with
            phaseIndex := (l.diverter.phaseIndex + 1) % n, step := some ⟨.refuse, due⟩ } })
        ∧ ((∃ t c k, d = .accept t c k) → (s.lane i).diverter.position = 0 → s.tryMove i = s)
        ∧ ((∃ t c k, d = .accept t c k) → (s.lane i).diverter.position ≠ 0 →
          s.tryMove i = s.modLane i fun l => { l with diverter := { l.diverter with
            phaseIndex := (l.diverter.phaseIndex + (n - 1)) % n, step := some ⟨.accept, due⟩ } })

/-- GATE_ARRIVAL. A travel-queue record that finds the paddle at rest on its side is committed: an ACCEPT record counts into the
run of its plan entry and sets COMMIT, a REFUSE record raises the refused count. A record that does not, or that is still in the
span list, is removed, its place released, the misrouted count raised, MISROUTED set, and the lane held with LATE_DIVERT (R47,
R48, R80, R81, R82). GATE_CLEAR. The committed record leaves the travel queue, a move may begin, and a CLOSING docket settles
when both lists are empty (R50, R89). With no such timer armed neither does anything: a number that no record carries, that of a
committed record or of a record without a gate arrival for GATE_ARRIVAL, of an uncommitted one for GATE_CLEAR (log entry 15). -/
def Obligations.GateArrivalAndClear : Prop :=
  (∀ (i : LaneId) (seq : Nat) (due : Tick) (s : State),
     ((s.lane i).state ≠ .running → exec (.gateArrival i seq) s = .next s.transmit)
     ∧ ((s.lane i).state = .running →
       (∀ xs p ys, (s.lane i).travel = xs ++ p :: ys → (∀ q ∈ xs, q.seq = seq → q.committed = true) → p.seq = seq →
         p.committed = false → p.gateArrival = some due →
         (∀ ty c k n, p.disposition = some (.accept ty c k) → p.entry = some n → (s.lane i).diverter.step = none →
           (s.lane i).diverter.position = 0 →
           exec (.gateArrival i seq) s = .next (State.join (.lane i) ((s.reach due).modLane i fun l => { l with
             travel := xs ++ { p with committed := true } :: ys
             docket := l.docket.map (Docket.commit n)
             flags := { l.flags with commit := true } })).transmit)
         ∧ (∀ r, p.disposition = some (.refuse r) → (s.lane i).diverter.step = none →
           (s.lane i).diverter.position = s.settings.lanes[i].throwSteps →
           exec (.gateArrival i seq) s = .next ((s.reach due).modLane i fun l => { l with
             travel := xs ++ { p with committed := true } :: ys
             docket := l.docket.map fun d => { d with refused := min 65535 (d.refused + 1) } }).transmit)
         ∧ (∀ d, p.disposition = some d → (s.lane i).holds = HoldSet.empty → (∀ q ∈ (s.lane i).span, q.seq ≠ seq) →
           ((s.lane i).diverter.step ≠ none
             ∨ (s.lane i).diverter.position ≠ match d with | .accept _ _ _ => 0 | .refuse _ => s.settings.lanes[i].throwSteps) →
           exec (.gateArrival i seq) s = .next (State.settleIfClosing i (State.join (.lane i)
             ((s.reach due).modLane i fun l => Lane.heldBy .lateDivert { l with
               travel := xs ++ ys
               docket := l.docket.map fun d => { d.releaseRecord p with misrouted := min 65535 (d.misrouted + 1) }
               flags := { l.flags with misrouted := true } }))).transmit))
       ∧ (∀ xs p ys, (s.lane i).span = xs ++ p :: ys → (∀ q ∈ xs, q.seq = seq → q.committed = true) → p.seq = seq →
         p.committed = false → p.gateArrival = some due → p.entry = none → (∀ q ∈ (s.lane i).travel, q.seq ≠ seq) →
         (s.lane i).holds = HoldSet.empty →
         exec (.gateArrival i seq) s = .next (State.settleIfClosing i (State.join (.lane i)
           ((s.reach due).modLane i fun l => Lane.heldBy .lateDivert { l with
             span := xs ++ ys
             docket := l.docket.map fun d => { d with misrouted := min 65535 (d.misrouted + 1) }
             flags := { l.flags with misrouted := true } }))).transmit)
       ∧ ((∀ q ∈ (s.lane i).travel ++ (s.lane i).span, q.seq ≠ seq) ∨ (s.lane i).awaitingArrival seq = none →
           exec (.gateArrival i seq) s = .next s.transmit)
       ∧ ((∀ q ∈ (s.lane i).travel ++ (s.lane i).span, q.seq = seq → q.committed = true ∨ q.gateArrival = none) →
           (s.lane i).awaitingArrival seq = none)))
  ∧ ∀ (i : LaneId) (seq : Nat) (s : State),
      (∀ xs p ys due, (s.lane i).state = .running → (s.lane i).travel = xs ++ p :: ys →
        (∀ q ∈ xs, q.seq = seq → q.committed = false) → p.seq = seq → p.committed = true → p.gateClear = some due →
        let moved := State.tryMove i ((s.reach due).modLane i fun l => { l with travel := xs ++ ys })
        (xs ++ ys = [] → (s.lane i).span = [] → (s.lane i).docket.map Docket.state = some .closing →
          exec (.gateClear i seq) s = .next (moved.settleDocket i).transmit)
        ∧ (xs ++ ys ≠ [] ∨ (s.lane i).span ≠ [] ∨ (s.lane i).docket.map Docket.state ≠ some .closing →
          exec (.gateClear i seq) s = .next moved.transmit))
      ∧ ((s.lane i).state ≠ .running ∨ (∀ q ∈ (s.lane i).travel, q.seq = seq → q.committed = false ∨ q.gateClear = none) →
          exec (.gateClear i seq) s = .next s.transmit)

/-- QUIET and AUTO_CLOSED. The quiet timer takes an OPEN docket to QUIET, starts the auto-close timer for AUTO_CLOSE minutes
unless that is 0, and sets QUIET. The auto-close timer sets AUTO_CLOSED and closes a QUIET docket with cause AUTO: at once when
nothing is in flight, else it is CLOSING (R66, R67, R88). With its timer not running neither does anything (log entry 15). -/
def Obligations.QuietDocketsClose : Prop :=
  ∀ (i : LaneId) (s : State),
    ((s.lane i).quietTimer = none → exec (.quiet i) s = .next s.transmit)
    ∧ ((s.lane i).autoCloseTimer = none → exec (.autoClosed i) s = .next s.transmit)
    ∧ ∀ due d, (s.lane i).docket = some d →
      let u := s.reach due
      ((s.lane i).quietTimer = some due → d.state = .opened →
        exec (.quiet i) s = .next (State.join (.lane i) (u.modLane i fun l => { l with
          docket := some { d with state := .quiet }
          quietTimer := none
          autoCloseTimer := if s.settings.autoClose = 0 then none
            else some (u.tick + BitVec.ofNat 32 (s.settings.autoClose * 240000))
          flags := { l.flags with quiet := true } })).transmit)
      ∧ ((s.lane i).autoCloseTimer = some due → d.state = .quiet →
        let closed := State.join (.lane i) (u.modLane i fun l => { l with
          docket := some { d with state := .closing, closeCause := some .auto }
          quietTimer := none
          autoCloseTimer := none
          flags := { l.flags with autoClosed := true } })
        ((s.lane i).span ≠ [] ∨ (s.lane i).travel ≠ [] → exec (.autoClosed i) s = .next closed.transmit)
        ∧ ((s.lane i).span = [] → (s.lane i).travel = [] → exec (.autoClosed i) s = .next (closed.settleDocket i).transmit))

/-! ### The type table -/

/-- TYPE_WRITE is refused by the first condition of R26's table that holds; accepted, it replaces the entry at the index with
all ten fields of the request, and nothing else changes (R23, R24, R25, R26). -/
def Obligations.TypeWriteChecksInOrder : Prop :=
  ∀ (e : TypeEntryData) (s : State), s.free → s.part.state ≠ .starting →
    let other (clash : TypeEntry → Bool) : Bool := decide (∃ j : Fin 24, j.val ≠ e.index ∧ clash s.types[j] = true)
    let refused : Option Status :=
      if ∃ i, (s.lane i).docket.isSome then some .inUse
      else if s.part.save.isSome then some .busy
      else if 24 ≤ e.index ∨ 255 < e.owner ∨ 65535 < e.tag ∨ e.lengthMax < e.lengthMin ∨ 4095 < e.lengthMax ∨ 40 < e.slots
          ∨ 65535 < e.deposit ∨ 65535 < e.bottleDeposit ∨ 1000 < e.damagedPermille ∨ 1000 < e.surplusPermille
          ∨ (e.keg = true ∧ (e.slots ≠ 0 ∨ e.bottleDeposit ≠ 0)) then some .range
      else if e.enabled = true ∧ e.tag ≠ 0 ∧ other (fun x => x.enabled && x.tag ≠ 0 && x.owner = e.owner && x.tag = e.tag)
        then some .duplicate
      else if e.enabled = true ∧ e.tag = 0
          ∧ other (fun x => x.enabled && x.tag = 0 && x.lengthMin ≤ e.lengthMax && e.lengthMin ≤ x.lengthMax)
        then some .overlap
      else none
    (∀ st, refused = some st → exec (.typeWrite e) s = .next (s.heard.answered (.typeWrite e) st []).transmit)
    ∧ ∀ h : e.index < 24, refused = none →
      exec (.typeWrite e) s = .next (State.answered (.typeWrite e) .ok [byteOf e.index] { s.heard with
        types := s.types.set e.index ⟨e.enabled, e.keg, e.owner, e.tag, e.lengthMin, e.lengthMax, e.slots, e.deposit,
          e.bottleDeposit, e.damagedPermille, e.surplusPermille⟩ h }).transmit

/-- TYPE_READ returns the whole entry at an index of the working table, all ten fields, with status OK, in the 18 bytes of the
type-entry record, whether or not dockets exist and while a save is in progress; an index outside 0 to 23 is refused RANGE
(R28, R173). -/
def Obligations.TypeReadReturnsTheEntry : Prop :=
  ∀ (index : Nat) (s : State), s.free → s.part.state ≠ .starting →
    (24 ≤ index → exec (.typeRead index) s = .next (s.heard.answered (.typeRead index) .range []).transmit)
    ∧ ∀ h : index < 24,
      let e := s.types[index]
      exec (.typeRead index) s = .next (s.heard.answered (.typeRead index) .ok
        [byteOf index, byteOf (e.enabled.toNat + 2 * e.keg.toNat), byteOf e.owner, byteOf e.tag, byteOf (e.tag / 256),
          byteOf e.lengthMin, byteOf (e.lengthMin / 256), byteOf e.lengthMax, byteOf (e.lengthMax / 256), byteOf e.slots,
          byteOf e.deposit, byteOf (e.deposit / 256), byteOf e.bottleDeposit, byteOf (e.bottleDeposit / 256),
          byteOf e.damagedPermille, byteOf (e.damagedPermille / 256), byteOf e.surplusPermille,
          byteOf (e.surplusPermille / 256)]).transmit

/-- Classification's first four steps and its last. An unsteady record is refused with its mark's reason; a CLOSING docket, or
none, AFTER_CLOSE; a tagged record takes the enabled tagged type of its owner and type code, refused LENGTH_MISMATCH outside
that type's window, UNKNOWN_TYPE when another enabled tagged type has its owner and FOREIGN otherwise; an untagged record takes
the enabled length-only type whose window holds its length, else UNTAGGED. What is left to the reservation check carries the
type, DAMAGED when marked, and the neck count bounded by the slots, 0 for a KEG (R30, R31, R32, R33, R34, R36). -/
def Obligations.ClassificationSteps : Prop :=
  ∀ (types : Vector TypeEntry 24) (docket : Option Docket) (p : Passage) (n : Nat), TableConsistent types →
    p.length = some n →
    let closed := docket.all (·.state = .closing)
    let key (t : Fin 24) : RunKey :=
      ⟨t, if p.damaged then .damaged else .good, if types[t].keg = true then 0 else min p.necks types[t].slots, .auto⟩
    (p.unsteady = some .speed → classifyKey types docket p = .error .speed)
    ∧ (p.unsteady = some .unsteady → classifyKey types docket p = .error .unsteady)
    ∧ (p.unsteady = none → closed = true → classifyKey types docket p = .error .afterClose)
    ∧ (p.unsteady = none → closed = false →
      (∀ g, p.tag = some g →
        (∀ t : Fin 24, types[t].enabled = true → types[t].tag ≠ 0 → types[t].owner = g.owner → types[t].tag = g.code →
          (types[t].lengthMin ≤ n ∧ n ≤ types[t].lengthMax → classifyKey types docket p = .ok (key t))
          ∧ (n < types[t].lengthMin ∨ types[t].lengthMax < n → classifyKey types docket p = .error .lengthMismatch))
        ∧ ((∀ t : Fin 24, ¬ (types[t].enabled = true ∧ types[t].tag ≠ 0 ∧ types[t].owner = g.owner ∧ types[t].tag = g.code)) →
          ((∃ t : Fin 24, types[t].enabled = true ∧ types[t].tag ≠ 0 ∧ types[t].owner = g.owner) →
            classifyKey types docket p = .error .unknownType)
          ∧ ((∀ t : Fin 24, ¬ (types[t].enabled = true ∧ types[t].tag ≠ 0 ∧ types[t].owner = g.owner)) →
            classifyKey types docket p = .error .foreign)))
      ∧ (p.tag = none →
        (∀ t : Fin 24, types[t].enabled = true → types[t].tag = 0 → types[t].lengthMin ≤ n → n ≤ types[t].lengthMax →
          classifyKey types docket p = .ok (key t))
        ∧ ((∀ t : Fin 24, types[t].enabled = true → types[t].tag = 0 → n < types[t].lengthMin ∨ types[t].lengthMax < n) →
          classifyKey types docket p = .error .untagged)))

/-! ### Dockets -/

/-- DOCKET_OPEN is refused by the first condition of R75's table that holds. Accepted, it takes the next docket number (the
statement NumbersAndPressure), and creates an OPEN docket with empty lists and counts of 0 under the day in force; a CASH or
VOUCHER docket counts as a commitment; the lane enters HOMING (the statement HomingFindsHome); the reply carries the number
(R56, R73, R75, R76, R131). -/
def Obligations.DocketOpens : Prop :=
  ∀ (lane account method : Nat) (s : State), s.free → s.part.state = .opened →
    let slot := s.account account
    let paid := method = 0 ∨ method = 1
    let refused (i : LaneId) : Option Status :=
      if (s.lane i).docket.isSome then some .hasDocket
      else if (s.lane i).state ≠ .off ∨ s.settings.lanes[i].enable = false then some .badState
      else if slot = none then some .notFound
      else if slot.any Account.suspended then some .suspended
      else if method = 0 ∧ slot.any (!·.cash) ∨ method = 1 ∧ slot.any (!·.voucher) then some .notPermitted
      else if paid ∧ s.queue.pressure = .high then some .payoutBusy
      else if (s.lane i).beamA.level = true ∨ (s.lane i).beamB.level = true then some .beamsBlocked
      else none
    (4 ≤ lane ∨ 64 ≤ account ∨ 3 ≤ method → exec (.docketOpen lane account method) s =
      .next (s.heard.answered (.docketOpen lane account method) .range []).transmit)
    ∧ ∀ i : LaneId, lane = i.val → account < 64 → ∀ m, (method = 0 ∧ m = .cash ∨ method = 1 ∧ m = .voucher
        ∨ method = 2 ∧ m = .account) →
      (∀ st, refused i = some st → exec (.docketOpen lane account method) s =
        .next (s.heard.answered (.docketOpen lane account method) st []).transmit)
      ∧ (refused i = none →
        let n := s.docketNumber
        let fresh : Docket :=
          { number := n, account := account, method := m, state := .opened, openedDay := s.part.day
            closeCause := none, runs := [], plan := [], reserved := 0, accepted := 0, refused := 0, misrouted := 0
            voided := 0, nextEntry := 0 }
        let opened : State := { s.heard.modLane i fun l => { l with docket := some fresh } with
          part := { s.part with nextDocket := if n < 65535 then n + 1 else 1 } }
        exec (.docketOpen lane account method) s = .next (State.answered (.docketOpen lane account method) .ok (le2 n)
          (State.startHoming i (if m = .account then opened else opened.addCommitment))).transmit)

/-- The reservation check: a record whose key is the tail's, with the tail's planned count below 255, joins the newest plan
entry, or with an empty plan begins an entry whose target is the last run; any other needs a run of its own, and with runs used
plus reserved below 48 begins an unmade entry and reserves a run, with 48 it has no place (R78, R79). A committed record raises
its entry's target run, or makes the unmade target a run of one at the end of the list; the accepted count rises by one (R80).
A record released loses its place without a count, and an unmade entry that empties gives its reserved run back (R82). -/
def Obligations.PlanReservesCommitsReleases : Prop :=
  (∀ (d : Docket) (k : RunKey),
      let room := d.runs.length + d.reserved < 48
      let fresh : Docket := { d with
        plan := d.plan ++ [⟨d.nextEntry, k, none, 1⟩], reserved := d.reserved + 1, nextEntry := d.nextEntry + 1 }
      (∀ es e, d.plan = es ++ [e] →
        let planned := (match e.target with | some t => (d.runs[t]?.map Run.count).getD 0 | none => 0) + e.pending
        (e.key = k → planned < 255 →
          d.reserve k = some ({ d with plan := es ++ [{ e with pending := e.pending + 1 }] }, e.name))
        ∧ (e.key ≠ k ∨ 255 ≤ planned → room → d.reserve k = some (fresh, d.nextEntry))
        ∧ (e.key ≠ k ∨ 255 ≤ planned → ¬ room → d.reserve k = none))
      ∧ (∀ rs r, d.plan = [] → d.runs = rs ++ [r] →
        (r.key = k → r.count < 255 →
          d.reserve k = some ({ d with plan := [⟨d.nextEntry, k, some rs.length, 1⟩], nextEntry := d.nextEntry + 1 }, d.nextEntry))
        ∧ (r.key ≠ k ∨ 255 ≤ r.count → room → d.reserve k = some (fresh, d.nextEntry))
        ∧ (r.key ≠ k ∨ 255 ≤ r.count → ¬ room → d.reserve k = none))
      ∧ (d.plan = [] → d.runs = [] → (room → d.reserve k = some (fresh, d.nextEntry)) ∧ (¬ room → d.reserve k = none)))
  ∧ ∀ (d : Docket) (es : List PlanEntry) (e : PlanEntry) (fs : List PlanEntry), d.Sound → d.plan = es ++ e :: fs →
        let left (target : Option Nat) : List PlanEntry :=
          es ++ (if e.pending = 1 then [] else [{ e with target := target, pending := e.pending - 1 }]) ++ fs
        (∀ t, e.target = some t → d.commit e.name = { d with
            runs := d.runs.modify t fun r => { r with count := r.count + 1 }
            plan := left (some t)
            accepted := d.accepted + 1 })
        ∧ (e.target = none → d.commit e.name = { d with
            runs := d.runs ++ [⟨e.key, 1⟩]
            plan := left (some d.runs.length)
            reserved := d.reserved - 1
            accepted := d.accepted + 1 })
        ∧ d.release e.name = { d with
            plan := left e.target
            reserved := if e.target = none ∧ e.pending = 1 then d.reserved - 1 else d.reserved }

/-- DOCKET_ADJUST is refused by the first condition of R83's table that holds. With delta above 0 the last run takes what it can
of delta when it has the MANUAL key, what remains goes into one new run at the end, and the accepted count rises by delta. With
delta below 0 it takes from the runs of the type, condition and bottle count from the newest on: `x` is the run it stops in,
every matching run after it goes, and `x` goes too when nothing of it is left; plan entries follow their runs, an entry whose
run is deleted becomes unmade with a reserved run, and the accepted count falls. The reply carries the accepted count and the
runs used (R83, R84, R85, R86). -/
def Obligations.DocketAdjusts : Prop :=
  (∀ (lane type condition bottles : Nat) (delta : Int) (s : State), s.free → s.part.state ≠ .starting →
     let c := Instr.docketAdjust lane type condition bottles delta
     let r := Request.docketAdjust lane type condition bottles delta
     (4 ≤ lane ∨ 24 ≤ type ∨ 2 ≤ condition ∨ 40 < bottles ∨ delta < -255 ∨ 255 < delta ∨ delta = 0 →
       exec c s = .next (s.heard.answered r .range []).transmit)
     ∧ ∀ (i : LaneId) (t : Fin 24), lane = i.val → type = t.val → condition < 2 → bottles ≤ 40 → -255 ≤ delta → delta ≤ 255 →
       delta ≠ 0 →
       ((s.lane i).docket = none → exec c s = .next (s.heard.answered r .noDocket []).transmit)
       ∧ (∀ d, (s.lane i).docket = some d → d.state = .closing → exec c s = .next (s.heard.answered r .badState []).transmit)
       ∧ ∀ d n, (s.lane i).docket = some d → d.state ≠ .closing → delta = Int.ofNat n →
         let key : RunKey := ⟨type, if condition = 0 then .good else .damaged, bottles, .manual⟩
         let added (runs : List Run) : Prop :=
           exec c s = .next (State.answered r .ok (le2 (d.accepted + n) ++ [byteOf runs.length])
             (s.heard.modLane i fun l => { l with docket := some { d with
               runs := runs, accepted := d.accepted + n } })).transmit
         (s.types[t].enabled = false ∨ s.types[t].slots < bottles →
           exec c s = .next (s.heard.answered r .range []).transmit)
         ∧ (s.types[t].enabled = true → bottles ≤ s.types[t].slots →
           (∀ rs x, d.runs = rs ++ [x] → x.key = key → x.count + n ≤ 255 → added (rs ++ [{ x with count := x.count + n }]))
           ∧ (∀ rs x, d.runs = rs ++ [x] → x.key = key → x.count < 255 → 255 < x.count + n → d.runs.length + d.reserved < 48 →
               added (rs ++ [{ x with count := 255 }] ++ [⟨key, x.count + n - 255⟩]))
           ∧ (d.runs = [] ∨ (∃ rs x, d.runs = rs ++ [x] ∧ (x.key ≠ key ∨ x.count = 255)) → d.runs.length + d.reserved < 48 →
               added (d.runs ++ [⟨key, n⟩]))
           ∧ (d.runs = [] ∨ (∃ rs x, d.runs = rs ++ [x] ∧ (x.key ≠ key ∨ 255 < x.count + n)) → 48 ≤ d.runs.length + d.reserved →
               exec c s = .next (s.heard.answered r .docketFull []).transmit)))
  ∧ ∀ (i : LaneId) (t : Fin 24) (condition bottles n : Nat) (d : Docket) (s : State), s.free → s.part.state ≠ .starting →
      condition < 2 → bottles ≤ 40 → 1 ≤ n → n ≤ 255 → (s.lane i).docket = some d → d.state ≠ .closing →
      (∀ r ∈ d.runs, 1 ≤ r.count) →
      let c := Instr.docketAdjust i t condition bottles (-(n : Int))
      let q := Request.docketAdjust i t condition bottles (-(n : Int))
      let hit (r : Run) : Bool := r.key.type = t.val && r.key.condition = (if condition = 0 then .good else .damaged)
        && r.key.bottles = bottles
      let held (rs : List Run) : Nat := ((rs.filter hit).map Run.count).sum
      (held d.runs < n → exec c s = .next (s.heard.answered q .short []).transmit)
      ∧ ∀ xs x ys, d.runs = xs ++ x :: ys → hit x = true → held ys < n → n ≤ held (x :: ys) →
        let rest := held (x :: ys) - n
        let kept : List Run := if rest = 0 then [] else [{ x with count := rest }]
        let runs := xs ++ kept ++ ys.filter (! hit ·)
        let moved (k : Nat) : Option Nat :=
          if k < xs.length then some k
          else if k = xs.length then (if rest = 0 then none else some k)
          else if ((ys[k - xs.length - 1]?).any fun r => !hit r) = true
            then some (xs.length + kept.length + ((ys.take (k - xs.length - 1)).filter (! hit ·)).length)
          else none
        exec c s = .next (State.answered q .ok (le2 (d.accepted - n) ++ [byteOf runs.length])
          (s.heard.modLane i fun l => { l with docket := some { d with
            runs := runs
            plan := d.plan.map fun e => { e with target := e.target.bind moved }
            reserved := d.reserved + (d.plan.filter fun e => (e.target.map fun k => (moved k).isNone) = some true).length
            accepted := d.accepted - n } })).transmit

/-- DOCKET_CLOSE is refused RANGE, NO_DOCKET, and BAD_STATE with CLOSING and the number; a docket in OPEN or QUIET is closed with
cause REQUEST: its timers stop, and it settles at once when both lists are empty and is CLOSING otherwise, the reply carrying
which and the docket number (R88). DOCKET_CANCEL is refused RANGE and NO_DOCKET; a lane in HOMING or RUNNING is held with
CANCELLED and all in flight is voided, a held lane has CANCELLED added; the docket is discarded, nothing settles, its commitment
is released, and the reply carries its number (R58, R59, R60, R92). That the code of the docket state in a reply has 1 byte is the
model's choice (log entry 46). -/
def Obligations.DocketClosesOrIsCancelled : Prop :=
  (∀ (lane : Nat) (s : State), s.free → s.part.state ≠ .starting →
     (4 ≤ lane → exec (.docketClose lane) s = .next (s.heard.answered (.docketClose lane) .range []).transmit)
     ∧ ∀ i : LaneId, lane = i.val →
       ((s.lane i).docket = none → exec (.docketClose lane) s =
         .next (s.heard.answered (.docketClose lane) .noDocket []).transmit)
       ∧ ∀ d, (s.lane i).docket = some d →
         (d.state = .closing → exec (.docketClose lane) s =
           .next (s.heard.answered (.docketClose lane) .badState (2 :: le2 d.number)).transmit)
         ∧ (d.state ≠ .closing →
           let closed := s.heard.modLane i fun l => { l with
             docket := some { d with state := .closing, closeCause := some .request }
             quietTimer := none
             autoCloseTimer := none }
           ((s.lane i).span = [] → (s.lane i).travel = [] → exec (.docketClose lane) s =
             .next (State.answered (.docketClose lane) .ok (3 :: le2 d.number) (closed.settleDocket i)).transmit)
           ∧ ((s.lane i).span ≠ [] ∨ (s.lane i).travel ≠ [] → exec (.docketClose lane) s =
             .next (State.answered (.docketClose lane) .ok (2 :: le2 d.number) closed).transmit)))
  ∧ ∀ (lane : Nat) (s : State), s.free → s.part.state ≠ .starting →
      (4 ≤ lane → exec (.docketCancel lane) s = .next (s.heard.answered (.docketCancel lane) .range []).transmit)
      ∧ ∀ i : LaneId, lane = i.val →
        ((s.lane i).docket = none → exec (.docketCancel lane) s =
          .next (s.heard.answered (.docketCancel lane) .noDocket []).transmit)
        ∧ ∀ d, (s.lane i).docket = some d →
          let release (u : State) : State := if d.method = .account then u else u.dropCommitment
          ((s.lane i).state = .homing ∨ (s.lane i).state = .running → (s.lane i).holds = HoldSet.empty →
            exec (.docketCancel lane) s = .next (State.answered (.docketCancel lane) .ok (le2 d.number)
              (release (State.join (.lane i) (s.heard.modLane i fun l => { Lane.heldBy .cancelled l with
                docket := none })))).transmit)
          ∧ ((s.lane i).state = .held → (s.lane i).holds.cancelled = false →
            exec (.docketCancel lane) s = .next (State.answered (.docketCancel lane) .ok (le2 d.number)
              (release (State.join (.lane i) (s.heard.modLane i fun l => { l with
                holds := { l.holds with cancelled := true }
                flags := { l.flags with held := true }
                docket := none })))).transmit)

/-- LANE_HOLD is refused RANGE and, in OFF, NO_DOCKET; it holds a lane in HOMING or RUNNING with REQUESTED and adds REQUESTED on a
held lane; the reply carries HELD and the set (R62). LANE_RELEASE is refused RANGE, BAD_STATE and BEAMS_BLOCKED in that order; it
empties the set, sets RELEASED, and takes a lane with a docket to HOMING and one without to OFF, the reply carrying the resulting
state, RUNNING when home is found at once at the level that DIV_HOME's filter has accepted on the present tick, its samples of
ticks that commands have passed over being free (R63; log entry 45, the model's choice). LANE_TRIM is refused RANGE and, during a
save, BUSY; the steps are added to the working trim, the sum clamped to -63 to +63, and the reply carries it in two's complement
(R20, R172). That the code of the lane state in a reply has 1 byte is the model's choice (log entry 46). -/
def Obligations.LaneHoldReleaseAndTrim : Prop :=
  (∀ (lane : Nat) (s : State), s.free → s.part.state ≠ .starting →
     (4 ≤ lane → exec (.laneHold lane) s = .next (s.heard.answered (.laneHold lane) .range []).transmit
       ∧ exec (.laneRelease lane) s = .next (s.heard.answered (.laneRelease lane) .range []).transmit)
     ∧ ∀ i : LaneId, lane = i.val →
       ((s.lane i).state = .off → exec (.laneHold lane) s = .next (s.heard.answered (.laneHold lane) .noDocket []).transmit)
       ∧ ((s.lane i).state = .homing ∨ (s.lane i).state = .running → (s.lane i).holds = HoldSet.empty →
         exec (.laneHold lane) s = .next (State.answered (.laneHold lane) .ok [3, 0x20] (State.settleIfClosing i
           (State.join (.lane i) (s.heard.modLane i (Lane.heldBy .requested))))).transmit)
       ∧ ((s.lane i).state = .held →
         let h := (s.lane i).holds
         let bits := [3, byteOf (h.crowded.toNat + 2 * h.strayAtB.toNat + 4 * h.jam.toNat + 8 * h.lateDivert.toNat
           + 16 * h.diverterHome.toNat + 32 + 64 * h.cancelled.toNat)]
         (h.requested = true → exec (.laneHold lane) s = .next (s.heard.answered (.laneHold lane) .ok bits).transmit)
         ∧ (h.requested = false → exec (.laneHold lane) s = .next (State.answered (.laneHold lane) .ok bits
             (State.join (.lane i) (s.heard.modLane i fun l => { l with
               holds := { l.holds with requested := true }, flags := { l.flags with held := true } }))).transmit))
       ∧ ((s.lane i).state ≠ .held →
         exec (.laneRelease lane) s = .next (s.heard.answered (.laneRelease lane) .badState []).transmit)
       ∧ ((s.lane i).state = .held → (s.lane i).beamA.level = true ∨ (s.lane i).beamB.level = true →
         exec (.laneRelease lane) s = .next (s.heard.answered (.laneRelease lane) .beamsBlocked []).transmit)
       ∧ ((s.lane i).state = .held → (s.lane i).beamA.level = false → (s.lane i).beamB.level = false →
         let released := State.join (.lane i) (s.heard.modLane i fun l => { l with
           holds := HoldSet.empty, flags := { l.flags with released := true } })
         let v := (s.lane i).diverter
         let pass (w : Diverter) : Diverter := { w with home := Line.sample { w.home with
           pin := Config.divHome i s.port.resets w.homeReads }, homeReads := w.homeReads + 1 }
         let home : Bool := (pass^[min 3 (Tick.since s.tick v.homeTick)] v).home.level
         ((s.lane i).docket = none → exec (.laneRelease lane) s = .next (State.answered (.laneRelease lane) .ok [0]
           (released.modLane i fun l => { l with state := .off })).transmit)
         ∧ ((s.lane i).docket ≠ none → exec (.laneRelease lane) s = .next (State.answered (.laneRelease lane) .ok
           [if home = true then 2 else 1] (released.startHoming i)).transmit)))
  ∧ ∀ (lane : Nat) (steps : Int) (s : State), s.free → s.part.state ≠ .starting →
      (4 ≤ lane ∨ steps < -63 ∨ 63 < steps → exec (.laneTrim lane steps) s =
        .next (s.heard.answered (.laneTrim lane steps) .range []).transmit)
      ∧ ∀ i : LaneId, lane = i.val → -63 ≤ steps → steps ≤ 63 →
        (s.part.save ≠ none → exec (.laneTrim lane steps) s =
          .next (s.heard.answered (.laneTrim lane steps) .busy []).transmit)
        ∧ (s.part.save = none →
          let sum := s.settings.lanes[i].trim + steps
          let trim := if 63 < sum then 63 else if sum < -63 then -63 else sum
          let lane' : LaneSettings := { s.settings.lanes[i] with trim := trim }
          exec (.laneTrim lane steps) s = .next (State.answered (.laneTrim lane steps) .ok [BitVec.ofInt 8 trim] { s.heard with
            settings := { s.settings with lanes := s.settings.lanes.set i lane' } }).transmit)

/-! ### Accounts -/

/-- ACCT_WRITE is refused by the first condition of R100's table that holds; accepted, it replaces the whole slot: EMPTY, or
the record's fields with every listed type at its pair's count and every other at 0. ISSUE is refused by the first condition of
R107's table that holds; accepted, the outstanding count of the type rises by count and stops at 65535, and the reply carries
it (R97, R99, R100, R101, R107). -/
def Obligations.AccountsAreWritten : Prop :=
  (∀ (r : AccountData) (s : State), s.free → s.part.state ≠ .starting →
    let good := r.state = 0 ∨ (r.state = 1 ∨ r.state = 2) ∧ 1 ≤ r.number ∧ r.number ≤ 4294967295 ∧ r.dayCap ≤ 99999999
      ∧ r.credit ≤ 99999999 ∧ r.paidToday ≤ r.dayCap ∧ r.pairs.length ≤ 24
      ∧ (∀ p ∈ r.pairs, p.1 < 24 ∧ 1 ≤ p.2 ∧ p.2 ≤ 65535) ∧ (r.pairs.map Prod.fst).Nodup
    let named := s.dockets.any (·.account = r.index) || s.queue.orders.any (·.account = r.index)
    let refused : Option Status :=
      if 64 ≤ r.index ∨ ¬ good then some .range
      else if r.state ≠ 0 ∧ ∃ j : Fin 64, j.val ≠ r.index ∧ s.accounts[j].any (·.number = r.number) = true then some .duplicate
      else if named = true ∧ (r.state = 0 ∨ (s.account r.index).any (·.number = r.number) = false) then some .inUse
      else none
    (∀ st, refused = some st → exec (.acctWrite r) s = .next (s.heard.answered (.acctWrite r) st []).transmit)
    ∧ ∀ h : r.index < 64, refused = none →
      exec (.acctWrite r) s = .next (State.answered (.acctWrite r) .ok [byteOf r.index] { s.heard with
        accounts := s.accounts.set r.index (if r.state = 0 then none else some ⟨decide (r.state = 2), r.number, r.cash,
          r.voucher, r.dayCap, r.paidToday, r.credit,
          Vector.ofFn fun t : Fin 24 => ((r.pairs.find? (·.1 = t.val)).map Prod.snd).getD 0⟩) h }).transmit)
  ∧ ∀ (account type count : Nat) (s : State), s.free → s.part.state ≠ .starting →
    let q := Request.issue account type count
    (64 ≤ account ∨ 24 ≤ type ∨ count = 0 ∨ 65535 < count →
      exec (.issue account type count) s = .next (s.heard.answered q .range []).transmit)
    ∧ ∀ (h : account < 64) (g : type < 24), 1 ≤ count → count ≤ 65535 →
      (s.accounts[account] = none → exec (.issue account type count) s = .next (s.heard.answered q .notFound []).transmit)
      ∧ ∀ a, s.accounts[account] = some a →
        (s.types[type].enabled = false →
          exec (.issue account type count) s = .next (s.heard.answered q .range []).transmit)
        ∧ (s.types[type].enabled = true →
          let n := min 65535 (a.outstanding[type] + count)
          let raised : Account := { a with outstanding := a.outstanding.set type n g }
          exec (.issue account type count) s = .next (State.answered q .ok (le2 n) { s.heard with
            accounts := s.accounts.set account (some raised) h }).transmit)

/-- ACCT_RANGE sets the window and its cursor, refused RANGE for a range that is not one; ACCT_NEXT without a window is refused
BAD_STATE. A window reply takes the non-empty slots from the cursor up, each whole record that fits in 245 bytes, and ends at
the first that does not, on which the cursor stays, or past the window's last: OK with at least one record and END with none,
carrying the cursor and the number of records (R104, R105). -/
def Obligations.AccountWindowReplies : Prop :=
  ∀ (s : State), s.free → s.part.state ≠ .starting →
    let batch (c : Instr) (r : Request) (w : Window) : Prop :=
      ∃ cursor, w.cursor ≤ cursor ∧ cursor ≤ w.last + 1
        ∧ let slots := (List.range' w.cursor (cursor - w.cursor)).filter fun j => (s.account j).isSome
          let size := (slots.map fun j => (accountBytes j (s.account j)).length).sum
          size ≤ 245
          ∧ (cursor ≤ w.last → ∃ a, s.account cursor = some a ∧ 245 < size + (accountBytes cursor (some a)).length)
          ∧ exec c s = .next (State.answered r (if slots = [] then .ended else .ok)
              (byteOf cursor :: byteOf slots.length :: slots.flatMap fun j => accountBytes j (s.account j))
              { s.heard with port := { s.heard.port with window := some { w with cursor := cursor } } }).transmit
    (∀ first last, last < first ∨ 64 ≤ last → exec (.acctRange first last) s =
      .next (s.heard.answered (.acctRange first last) .range []).transmit)
    ∧ (∀ first last, first ≤ last → last < 64 → batch (.acctRange first last) (.acctRange first last) ⟨last, first, first⟩)
    ∧ (s.port.window = none → exec .acctNext s = .next (s.heard.answered .acctNext .badState []).transmit)
    ∧ ∀ w, s.port.window = some w → w.last < 64 → w.cursor ≤ w.last + 1 → batch .acctNext .acctNext w

/-! ### Settlement -/

/-- The lines of a settlement: one for each type of the run list, rising; returns matched against the outstanding count, good
before damaged; five amounts, each rounded down once; a subtotal and the credit bounded by MAX_AMOUNT, with SATURATED
exactly when one was (R113, R114, R115, R116). -/
def Obligations.SettlementLines : Prop :=
  ∀ (types : Vector TypeEntry 24) (unit : Nat) (a : Account) (requested : Method) (runs : List Run),
    let c := computeSettlement types unit a requested runs
    let good (t : Fin 24) := ((runs.filter fun r => r.key.type = t.val && r.key.condition = .good).map Run.count).sum
    let damaged (t : Fin 24) := ((runs.filter fun r => r.key.type = t.val && r.key.condition = .damaged).map Run.count).sum
    let bottles (t : Fin 24) := ((runs.filter fun r => r.key.type = t.val).map fun r => r.count * r.key.bottles).sum
    let mg (t : Fin 24) := min (good t) a.outstanding[t]
    let md (t : Fin 24) := min (damaged t) (a.outstanding[t] - mg t)
    let amount (t : Fin 24) :=
      let e := types[t]
      mg t * e.deposit + md t * e.deposit * e.damagedPermille / 1000 + (good t - mg t) * e.deposit * e.surplusPermille / 1000
        + (damaged t - md t) * e.deposit * e.damagedPermille * e.surplusPermille / 1000000 + bottles t * e.bottleDeposit
    let ts := (List.finRange 24).filter fun t => runs.any fun r => r.key.type = t.val
    c.lines = ts.map (fun t => ⟨t, good t, damaged t, bottles t, mg t + md t, (good t - mg t) + (damaged t - md t),
      min 99999999 (amount t)⟩)
    ∧ c.credit = min 99999999 ((ts.map fun t => min 99999999 (amount t)).sum)
    ∧ (c.flags.saturated = true ↔ (∃ t ∈ ts, 99999999 < amount t)
        ∨ 99999999 < (ts.map fun t => min 99999999 (amount t)).sum)

/-- With applied method ACCOUNT the payout P is 0 and the remainder the whole credit, with neither CAP_LIMITED nor ROUNDED.
With CASH or VOUCHER the payout starts from the smaller of the credit and the day cap less paid today, CAP_LIMITED when the
credit exceeds that; CASH rounds it down to a whole multiple of CASH_UNIT, ROUNDED when that lowers it; the remainder is the
rest of the credit (R118, R119). The applied method is ACCOUNT for a suspended account or a method not permitted, with the
flag that says which, else the requested method (R117). -/
def Obligations.SettlementSplit : Prop :=
  ∀ (types : Vector TypeEntry 24) (unit : Nat) (a : Account) (requested : Method) (runs : List Run),
    let c := computeSettlement types unit a requested runs
    let left := a.dayCap - a.paidToday
    let p0 := min c.credit left
    let permitted := requested = .cash ∧ a.cash = true ∨ requested = .voucher ∧ a.voucher = true
    (c.applied = .account → c.payout = 0 ∧ c.posted = c.credit ∧ c.flags.capLimited = false ∧ c.flags.rounded = false)
    ∧ (c.applied ≠ .account → c.posted = c.credit - c.payout ∧ c.payout ≤ left
        ∧ (c.flags.capLimited = true ↔ left < c.credit) ∧ (c.flags.rounded = true ↔ c.payout < p0))
    ∧ (c.applied = .voucher → c.payout = p0)
    ∧ (c.applied = .cash → 0 < unit → unit ∣ c.payout ∧ c.payout ≤ p0 ∧ ∀ x, unit ∣ x → x ≤ p0 → x ≤ c.payout)
    ∧ (c.applied = if requested ≠ .account ∧ a.suspended = false ∧ permitted then requested else .account)
    ∧ (c.flags.suspendedDowngrade = true ↔ requested ≠ .account ∧ a.suspended = true)
    ∧ (c.flags.methodDowngrade = true ↔ requested ≠ .account ∧ a.suspended = false ∧ ¬ permitted)
    ∧ (c.flags.creditSaturated = true ↔ 99999999 < a.credit + c.posted)

/-- A docket that settles changes its account (the outstanding counts fall by what was matched, the balance rises by the
remainder and stops at MAX_AMOUNT, paid today rises by the payout), stores a record as the newest of at most 16, makes an order
when the payout is above 0 and releases its commitment when not, and leaves its lane, which sets SETTLED and follows to OFF, or
stays HELD (R64, R90, R112, R120, R121, R122, R123, R135). That LANE (SETTLED) joins the attention set before QUEUE
(PRESSURE_NORMAL) where a commitment is released without an order is the model's choice (log entry 42). -/
def Obligations.SettlementSettlesTheDocket : Prop :=
  ∀ (i : LaneId) (s : State) (d : Docket) (a : Account) (h : d.account < 64), (s.lane i).docket = some d →
    s.accounts[d.account] = some a →
    let c := computeSettlement s.types s.settings.cashUnit a d.method d.runs
    let settled : Account := { a with
      outstanding := Vector.ofFn fun t => a.outstanding[t]
        - ((c.lines.filter fun l => l.type = t.val).map SettlementLine.matched).sum
      credit := min 99999999 (a.credit + c.posted)
      paidToday := a.paidToday + c.payout }
    let record (order : Option Nat) : Settlement :=
      { docket := d.number, lane := i, account := d.account, accountNumber := a.number, requested := d.method
        applied := c.applied, closeCause := d.closeCause.getD .request, day := d.openedDay, lines := c.lines
        credit := c.credit, payout := c.payout, posted := c.posted, order := order, flags := c.flags
        refused := d.refused, misrouted := d.misrouted, voided := d.voided }
    let left (order : Option Nat) (u : State) : State :=
      State.join (.lane i) (State.modLane i (fun l => { l with
        docket := none
        lastSettled := some d.number
        flags := { l.flags with settled := true }
        state := if l.state = .held then .held else .off
        quietTimer := if l.state = .held then l.quietTimer else none
        autoCloseTimer := if l.state = .held then l.autoCloseTimer else none
        jamA := if l.state = .held then l.jamA else none
        jamB := if l.state = .held then l.jamB else none
        diverter := { l.diverter with step := if l.state = .held then l.diverter.step else none } }) { u with
        settlements := (s.settlements ++ [record order]).drop (s.settlements.length + 1 - 16) })
    (c.payout = 0 → d.method = .account →
      s.settleDocket i = left none { s with accounts := s.accounts.set d.account (some settled) h })
    ∧ (c.payout = 0 → d.method ≠ .account →
      s.settleDocket i = (left none { s with accounts := s.accounts.set d.account (some settled) h }).dropCommitment)
    ∧ (0 < c.payout → ∀ m, (c.applied = .cash ∧ m = .cash ∨ c.applied = .voucher ∧ m = .voucher) →
      let n := s.orderNumber
      s.settleDocket i = State.arbitrate (left (some n) (State.join .queue { s with
        accounts := s.accounts.set d.account (some settled) h
        queue := { s.queue with
          orders := s.queue.orders ++ [⟨n, d.account, some d.number, m, c.payout, 0, .waiting, none, none, 0⟩]
          nextOrder := if n < 65535 then n + 1 else 1
          flags := { s.queue.flags with orderAdded := true } } })))

/-! ### The payout queue -/

/-- A new docket's number is no existing docket's and a new order's is no pending order's; each is its counter's value when
that is free. The pressure is re-evaluated after every change of the commitment count: HIGH from HIGH_MARK up, NORMAL from
LOW_MARK down, as it was between them; a change sets its event flag (R73, R129, R131, R132). -/
def Obligations.NumbersAndPressure : Prop :=
  ∀ s : State,
    (1 ≤ s.part.nextDocket → s.part.nextDocket ≤ 65535 →
      1 ≤ s.docketNumber ∧ s.docketNumber ≤ 65535 ∧ (∀ d ∈ s.dockets, d.number ≠ s.docketNumber)
      ∧ ((∀ d ∈ s.dockets, d.number ≠ s.part.nextDocket) → s.docketNumber = s.part.nextDocket))
    ∧ (1 ≤ s.queue.nextOrder → s.queue.nextOrder ≤ 65535 → s.queue.orders.length ≤ 16 →
      1 ≤ s.orderNumber ∧ s.orderNumber ≤ 65535 ∧ (∀ o ∈ s.queue.orders, o.number ≠ s.orderNumber)
      ∧ ((∀ o ∈ s.queue.orders, o.number ≠ s.queue.nextOrder) → s.orderNumber = s.queue.nextOrder))
    ∧ ∀ n, (s.addCommitment = State.evaluatePressure { s with queue := { s.queue with
          commitments := s.queue.commitments + 1 } })
      ∧ (s.queue.commitments = n + 1 → s.dropCommitment = State.evaluatePressure { s with queue := { s.queue with
          commitments := n } })
      ∧ (s.queue.pressure = .normal → s.settings.highMark ≤ s.queue.commitments → s.evaluatePressure =
          State.join .queue { s with queue := { s.queue with
            pressure := .high, flags := { s.queue.flags with pressureHigh := true } } })
      ∧ (s.queue.pressure = .high → s.queue.commitments ≤ s.settings.lowMark → s.evaluatePressure =
          State.join .queue { s with queue := { s.queue with
            pressure := .normal, flags := { s.queue.flags with pressureNormal := true } } })
      ∧ (s.queue.pressure = .normal → s.queue.commitments < s.settings.highMark → s.evaluatePressure = s)
      ∧ (s.queue.pressure = .high → s.settings.lowMark < s.queue.commitments → s.evaluatePressure = s)

/-- PAY_CREDIT is refused by the first condition of R138's table that holds; accepted, P, the smallest of the amount, the
balance and the cap left, for CASH rounded down to whole units, moves from the balance to paid today, an order for it is
appended, a commitment counted, and the arbiter acts; the reply carries P and the order number (R138). -/
def Obligations.PayCreditMakesAnOrder : Prop :=
  ∀ (account method amount : Nat) (s : State), s.free → s.part.state = .opened →
    let q := Request.payCredit account method amount
    let slot := s.account account
    let taken (a : Account) : Nat :=
      let p := min amount (min a.credit (a.dayCap - a.paidToday))
      if method = 0 then p / s.settings.cashUnit * s.settings.cashUnit else p
    let refused : Option Status :=
      if 64 ≤ account ∨ 2 ≤ method ∨ amount = 0 ∨ 99999999 < amount then some .range
      else if s.queue.pressure = .high then some .payoutBusy
      else if slot = none then some .notFound
      else if slot.any Account.suspended then some .suspended
      else if method = 0 ∧ slot.any (!·.cash) ∨ method = 1 ∧ slot.any (!·.voucher) then some .notPermitted
      else if slot.any (taken · = 0) then some .range
      else none
    (∀ st, refused = some st → exec (.payCredit account method amount) s = .next (s.heard.answered q st []).transmit)
    ∧ ∀ (h : account < 64) (a : Account), slot = some a → refused = none →
      let p := taken a
      let n := s.orderNumber
      let paid : Account := { a with credit := a.credit - p, paidToday := a.paidToday + p }
      exec (.payCredit account method amount) s = .next (State.answered q .ok (le4 p ++ le2 n)
        (State.arbitrate (State.addCommitment (State.join .queue { s.heard with
          accounts := s.accounts.set account (some paid) h
          queue := { s.queue with
            orders := s.queue.orders
              ++ [⟨n, account, none, if method = 0 then .cash else .voucher, p, 0, .waiting, none, none, 0⟩]
            nextOrder := if n < 65535 then n + 1 else 1
            flags := { s.queue.flags with orderAdded := true } } })))).transmit

/-- ORDER_CANCEL is refused RANGE for number 0, BAD_STATE for a SERVING order and for one in the history ring, NOT_FOUND for
any other that is not pending; a WAITING order's unpaid amount goes back to its account, the order leaves as CANCELLED for the
history ring of at most 8, its commitment ends, and the reply carries the unpaid amount and the balance (R130, R139). -/
def Obligations.OrderCancelReturnsTheUnpaid : Prop :=
  ∀ (n : Nat) (s : State), s.free → s.part.state ≠ .starting →
    (n = 0 → exec (.orderCancel n) s = .next (s.heard.answered (.orderCancel n) .range []).transmit)
    ∧ (n ≠ 0 → (∀ o ∈ s.queue.orders, o.number ≠ n) →
      ((∃ o ∈ s.queue.history, o.number = n) → exec (.orderCancel n) s =
        .next (s.heard.answered (.orderCancel n) .badState []).transmit)
      ∧ ((∀ o ∈ s.queue.history, o.number ≠ n) → exec (.orderCancel n) s =
        .next (s.heard.answered (.orderCancel n) .notFound []).transmit))
    ∧ ∀ xs o ys, n ≠ 0 → s.queue.orders = xs ++ o :: ys → (∀ x ∈ xs, x.number ≠ n) → o.number = n →
      (o.state = .serving → exec (.orderCancel n) s = .next (s.heard.answered (.orderCancel n) .badState []).transmit)
      ∧ ∀ (h : o.account < 64) (a : Account), o.state = .waiting → s.accounts[o.account] = some a →
        let unpaid := o.amount - o.paid
        let credited : Account := { a with credit := min 99999999 (a.credit + unpaid), paidToday := a.paidToday - unpaid }
        exec (.orderCancel n) s = .next (State.answered (.orderCancel n) .ok (le4 unpaid ++ le4 credited.credit)
          (State.raiseQueue (fun f => { f with orderCancelled := true }) (State.dropCommitment { s.heard with
            accounts := s.accounts.set o.account (some credited) h
            queue := { s.queue with
              orders := xs ++ ys
              history := (s.queue.history ++ [{ o with state := .cancelled, bay := none }]).drop
                (s.queue.history.length + 1 - 8) } }))).transmit

/-- The arbiter. A bay that is not READY, or with no WAITING order of its kind, takes none, and a VOUCHER bay none while the
sequence is exhausted. A READY bay takes the oldest WAITING order of its kind: the order and the bay become SERVING; a cash bay
asserts UNIT_REQ, the pulse for 20 ms and the unit timer for 1000 ms, but waits while a pulse is asserted and for 20 ms after
one has ended, for an order's first unit too (log entry 24, the model's choice); a voucher bay gives an order without one the
voucher number of the day and the next sequence value, numbers its attempt, and sends the PRINT frame. BAY0 is served first
(R135, R147, R150, R153, R154, R176). -/
def Obligations.ArbiterHandsOver : Prop :=
  ∀ s : State, s.arbitrate = (s.offer 0).offer 1
    ∧ ∀ b : BayId,
      ((s.bay b).state ≠ .ready → s.offer b = s)
      ∧ ((s.bay b).kind = some .cash → (∀ o ∈ s.queue.orders, o.state = .waiting → o.method ≠ .cash) → s.offer b = s)
      ∧ ((s.bay b).kind = some .voucher → (∀ o ∈ s.queue.orders, o.state = .waiting → o.method ≠ .voucher)
          ∨ s.part.voucherSeq = none → s.offer b = s)
      ∧ ∀ xs o ys, (s.bay b).state = .ready → s.queue.orders = xs ++ o :: ys → o.state = .waiting →
        (∀ x ∈ xs, x.number ≠ o.number ∧ (x.state = .waiting → x.method ≠ o.method)) →
        (o.method = .cash → (s.bay b).kind = some .cash →
          let started (service : Service) : Prop :=
            s.offer b = State.modBay b (fun y => { y with state := .serving, service := service }) { s with
              queue := { s.queue with orders := xs ++ { o with state := .serving, bay := some b } :: ys } }
          let v := (s.bay b).service
          (v.pulse = none → v.pulseEnd = none →
            started ⟨some o.number, 0, some (s.tick + 80), none, some (s.tick + 4000), none, none, [], none⟩)
          ∧ (∀ e, v.pulse = none → v.pulseEnd = some e → 80 ≤ Tick.since s.tick e →
            started ⟨some o.number, 0, some (s.tick + 80), some e, some (s.tick + 4000), none, none, [], none⟩)
          ∧ (∀ e, v.pulse = none → v.pulseEnd = some e → Tick.since s.tick e < 80 →
            started ⟨some o.number, 0, none, some e, none, some (e + 80), none, [], none⟩)
          ∧ ∀ p, v.pulse = some p → started ⟨some o.number, 0, some p, v.pulseEnd, none, none, none, [], none⟩)
        ∧ (∀ seq, o.method = .voucher → (s.bay b).kind = some .voucher → s.part.voucherSeq = some seq →
          let number := o.voucher.getD (s.part.day, seq)
          let attempt := min 255 (o.attempts + 1)
          let holder := ((s.account o.account).map Account.number).getD 0
          let body := 0x50 :: le2 number.1 ++ le2 number.2 ++ [byteOf attempt] ++ le4 holder
            ++ (match o.docket with | some d => 1 :: le2 d | none => [0]) ++ le4 (o.amount - o.paid)
          s.offer b = State.modBay b (fun y => { y with
            state := .serving
            service := { y.service with
              order := some o.number, units := 0, unitTimer := none, nextUnit := none, printTimer := none
              print := some ⟨number.1, number.2, attempt⟩, printFrame := frameOf body } }) { s with
                part := { s.part with voucherSeq :=
                  if o.voucher.isSome then some seq else if seq < 65535 then some (seq + 1) else none }
                queue := { s.queue with orders := xs
                  ++ { o with state := .serving, bay := some b, voucher := some number, attempts := attempt } :: ys } })

/-! ### The payout bays -/

/-- BAY_POWER is refused RANGE for a bay or setting that does not exist; accepted, it sets the enable and acts by R156's table: on
takes OFF to POWERING, MOD_RST low for 200 ms, and is stored elsewhere; off takes POWERING, STARTING, READY and FAULT to OFF with
the power off, a SERVING bay to STOPPING while a unit or print is outstanding and through the end of its drain at once when none
is, and is stored elsewhere. The reply carries the bay state and the enable (R145, R146, R155, R156). That BAY (ORDER_INTERRUPTED)
joins the attention set before QUEUE (ORDER_RETURNED) where a drain ends at once, and its order is handed back, is the model's
choice (log entry 43), and so is that the code of the bay state and the enable have 1 byte each in the reply (log entry 46). -/
def Obligations.BayPowerFollowsTheTable : Prop :=
  ∀ (bay setting : Nat) (s : State), s.free → s.part.state ≠ .starting →
    (2 ≤ bay ∨ 2 ≤ setting → exec (.bayPower bay setting) s =
      .next (s.heard.answered (.bayPower bay setting) .range []).transmit)
    ∧ ∀ b : BayId, bay = b.val →
      ((s.bay b).state = .off → exec (.bayPower bay 1) s = .next (State.answered (.bayPower bay 1) .ok [4, 1]
        (s.heard.modBay b fun y => { y with
          enable := true, state := .powering, powerTimer := some (s.tick + 800) })).transmit)
      ∧ ((s.bay b).state ≠ .off → exec (.bayPower bay 1) s = .next (State.answered (.bayPower bay 1) .ok
          [byteOf (s.bay b).state.code, 1] (s.heard.modBay b fun y => { y with enable := true })).transmit)
      ∧ ((s.bay b).state = .powering ∨ (s.bay b).state = .starting ∨ (s.bay b).state = .ready ∨ (s.bay b).state = .fault →
        exec (.bayPower bay 0) s = .next (State.answered (.bayPower bay 0) .ok [3, 0]
          (s.heard.modBay b fun y => Bay.unpowered .off { y with enable := false })).transmit)
      ∧ ((s.bay b).state = .serving → (s.bay b).service.unitTimer ≠ none ∨ (s.bay b).service.print ≠ none →
        exec (.bayPower bay 0) s = .next (State.answered (.bayPower bay 0) .ok [8, 0]
          (s.heard.modBay b fun y => { y with
            enable := false, state := .stopping, service := { y.service with nextUnit := none } })).transmit)
      ∧ (∀ order, (s.bay b).state = .serving → (s.bay b).service.unitTimer = none → (s.bay b).service.print = none →
        s.bayServes b order →
        exec (.bayPower bay 0) s = .next (State.answered (.bayPower bay 0) .ok [3, 0]
          (State.handsBack b order (s.heard.modBay b fun y => Bay.unpowered .off { y with enable := false }))).transmit)
      ∧ (((s.bay b).state = .vacant ∨ (s.bay b).state = .misseated ∨ (s.bay b).state = .unsupported ∨ (s.bay b).state = .off
          ∨ (s.bay b).state = .stopping) → exec (.bayPower bay 0) s = .next (State.answered (.bayPower bay 0) .ok
          [byteOf (s.bay b).state.code, 0] (s.heard.modBay b fun y => { y with enable := false })).transmit)

/-- SEAT_CHANGE. When the filtered levels become both closed the kind is latched from the pins, both open CASH, KIND1 alone
VOUCHER, any other UNSUPPORTED; SEATED is set; a supported module enters OFF, and POWERING with the enable on. When they were
both closed and no longer are, service ends and power goes off, the kind is absent, REMOVED is set and an order served is
interrupted; otherwise the bay is VACANT or MISSEATED (R143, R145, R146, R148). A command for the level
the contact already has is no change, and the command carries the kind pins: the model's choices (log entries 7 and 9). -/
def Obligations.SeatChangesTheBay : Prop :=
  ∀ (b : BayId) (contact : Fin 2) (closed kind1 kind2 : Bool) (t : Tick) (s : State),
    let c := Instr.seatChange b contact closed kind1 kind2 t
    let was (k : Fin 2) : Bool := if k = 0 then (s.bay b).seat1.level else (s.bay b).seat2.level
    let seated (y : Bay) : Bay := { y with
      seat1 := if contact = 0 then ⟨closed, closed, 0⟩ else y.seat1
      seat2 := if contact = 1 then ⟨closed, closed, 0⟩ else y.seat2
      kind1 := Line.steady kind1
      kind2 := Line.steady kind2 }
    let kind : BayKind := if kind2 = true then .unsupported else if kind1 = true then .voucher else .cash
    (was contact = closed → exec c s = .next (s.at t).transmit)
    ∧ (was contact = false → closed = true → was (1 - contact) = true →
      let latched (y : Bay) : Bay := { seated y with kind := some kind, flags := { y.flags with seated := true } }
      (kind = .unsupported → exec c s = .next (State.join (.bay b) ((s.at t).modBay b fun y => { latched y with
        state := .unsupported })).transmit)
      ∧ (kind ≠ .unsupported → (s.bay b).enable = false → exec c s = .next (State.join (.bay b) ((s.at t).modBay b
        fun y => { latched y with state := .off })).transmit)
      ∧ (kind ≠ .unsupported → (s.bay b).enable = true → exec c s = .next (State.join (.bay b) ((s.at t).modBay b
        fun y => { latched y with state := .powering, powerTimer := some (t + 800) })).transmit))
    ∧ (∀ order, was contact = true → closed = false → was (1 - contact) = true → s.bayServes b order →
      exec c s = .next (State.handsBack b order (State.join (.bay b) ((s.at t).modBay b fun y =>
        { Bay.unpowered .misseated (seated y) with kind := none, flags := { y.flags with removed := true } }))).transmit)
    ∧ (was contact = !closed → was (1 - contact) = false → exec c s = .next ((s.at t).modBay b fun y => { seated y with
        state := if closed = true then .misseated else .vacant, kind := none }).transmit)

/-- The power sequence. After 200 ms in POWERING the bay is STARTING for at most 2 s: MOD_FAULT takes it to FAULT with
MODULE_FAULT, MOD_READY alone to READY, where READY is set and the arbiter acts, and the timer to FAULT with NO_READY (R135,
R145, R146, R149). With its timer not running neither POWERING_DONE nor NO_READY does anything (log entry 15). -/
def Obligations.BaysPowerUp : Prop :=
  ∀ (b : BayId) (s : State),
    let faulted (u : State) (cause : FaultCause) (f : Bay → Bay) : State :=
      State.join (.bay b) (u.modBay b fun y => { Bay.unpowered .fault (f y) with
        lastFault := some cause, flags := { y.flags with fault := true } })
    let readied (u : State) (f : Bay → Bay) : State :=
      State.arbitrate (State.join (.bay b) (u.modBay b fun y => { f y with
        state := .ready, powerTimer := none, flags := { y.flags with ready := true } }))
    (∀ due, (s.bay b).state = .powering → (s.bay b).powerTimer = some due → (s.bay b).service.order = none →
      let u := s.reach due
      let lines (r f : Bool) (y : Bay) : Bay := { y with modReady := Line.steady r, modFault := Line.steady f }
      (∀ r, exec (.poweringDone b r true) s = .next (faulted u .moduleFault (lines r true)).transmit)
      ∧ exec (.poweringDone b true false) s = .next (readied u (lines true false)).transmit
      ∧ exec (.poweringDone b false false) s = .next (u.modBay b fun y => { lines false false y with
          state := .starting, powerTimer := some (u.tick + 8000) }).transmit)
    ∧ (∀ due, (s.bay b).state = .starting → (s.bay b).powerTimer = some due → (s.bay b).service.order = none →
      exec (.noReady b) s = .next (faulted (s.reach due) .noReady id).transmit)
    ∧ (∀ r f, (s.bay b).state ≠ .powering → exec (.poweringDone b r f) s = .next s.transmit)
    ∧ ((s.bay b).state ≠ .starting → exec (.noReady b) s = .next s.transmit)
    ∧ ∀ t, let asserted (y : Bay) : Bay := { y with modReady := Line.steady true }
      ((s.bay b).state = .starting → (s.bay b).modFault.level = false →
        exec (.modReadyAsserted b t) s = .next (readied (s.at t) asserted).transmit)
      ∧ ((s.bay b).state = .starting → (s.bay b).modFault.level = true → (s.bay b).service.order = none →
        exec (.modReadyAsserted b t) s = .next (faulted (s.at t) .moduleFault asserted).transmit)
      ∧ ((s.bay b).state ≠ .starting → exec (.modReadyAsserted b t) s = .next ((s.at t).modBay b asserted).transmit)

/-- The failures of a bay's module. In READY and SERVING, MOD_READY released (READY_LOST), MOD_FAULT asserted (MODULE_FAULT,
in STARTING too), the unit timer (UNIT_TIMEOUT) and the print timer (PRINT_TIMEOUT) take the bay to FAULT: power off, the
cause recorded, FAULT set, an order served interrupted. In STOPPING they end the drain: the cause is recorded, FAULT set, power
off, the bay OFF or, with its enable on again, POWERING, the order interrupted. In other states the levels change alone (R137,
R144, R147, R149, R151, R154, R155). That MOD_FAULT_ASSERTED acts whatever the level was (log entry 8), and that UNIT_TIMEOUT and
PRINT_TIMEOUT with their timer not running do nothing (log entry 15), are the model's choices. -/
def Obligations.FailuresFaultTheBay : Prop :=
  ∀ (b : BayId) (s : State) (order : Option PayOrder), s.bayServes b order →
    let fails (c : Instr) (u : State) (cause : FaultCause) (f : Bay → Bay) : Prop :=
      ((s.bay b).state = .ready ∨ (s.bay b).state = .serving → exec c s = .next (State.handsBack b order
        (State.join (.bay b) (u.modBay b fun y => { Bay.unpowered .fault (f y) with
          lastFault := some cause, flags := { y.flags with fault := true } }))).transmit)
      ∧ ((s.bay b).state = .stopping → exec c s = .next (State.handsBack b order
        (State.join (.bay b) (u.modBay b fun y => { Bay.unpowered (if y.enable = true then .powering else .off) (f y) with
          powerTimer := if y.enable = true then some (u.tick + 800) else none
          lastFault := some cause, flags := { y.flags with fault := true } }))).transmit)
    (∀ t, let released (y : Bay) : Bay := { y with modReady := Line.steady false }
      fails (.modReadyReleased b t) (s.at t) .readyLost released
      ∧ ((s.bay b).state ≠ .ready → (s.bay b).state ≠ .serving → (s.bay b).state ≠ .stopping →
        exec (.modReadyReleased b t) s = .next ((s.at t).modBay b released).transmit))
    ∧ (∀ t, let asserted (y : Bay) : Bay := { y with modFault := Line.steady true }
      fails (.modFaultAsserted b t) (s.at t) .moduleFault asserted
      ∧ ((s.bay b).state = .starting → exec (.modFaultAsserted b t) s = .next (State.handsBack b order
        (State.join (.bay b) ((s.at t).modBay b fun y => { Bay.unpowered .fault (asserted y) with
          lastFault := some .moduleFault, flags := { y.flags with fault := true } }))).transmit)
      ∧ ((s.bay b).state ≠ .starting → (s.bay b).state ≠ .ready → (s.bay b).state ≠ .serving →
        (s.bay b).state ≠ .stopping → exec (.modFaultAsserted b t) s = .next ((s.at t).modBay b asserted).transmit))
    ∧ (∀ due, (s.bay b).service.unitTimer = some due → fails (.unitTimeout b) (s.reach due) .unitTimeout id)
    ∧ (∀ due, (s.bay b).service.printTimer = some due → fails (.printTimeout b) (s.reach due) .printTimeout id)
    ∧ ((s.bay b).service.unitTimer = none → exec (.unitTimeout b) s = .next s.transmit)
    ∧ ((s.bay b).service.printTimer = none → exec (.printTimeout b) s = .next s.transmit)

/-- Paying in units. An awaited confirmation pays one CASH_UNIT of the order served and the bay goes on to the next unit, at
once or 20 ms after the last pulse ended; the last one makes the order DONE and the bay READY. A drain ends on it: the bay is
OFF, or POWERING with its enable on again, and the order is DONE when it was the last unit and interrupted when not. Any other
confirmation at a CASH bay is stray: the count rises and STRAY_UNIT is set; at another bay it is not seen. A pulse ends after 20
ms, and a unit wanted then begins 20 ms later (R136, R144, R150, R152, R155). A UNIT_DONE command is a confirmation whatever the
line's level was (log entry 8), and UNIT_REQ_PULSE_END and NEXT_UNIT_START with no such timer running do nothing (log entry 15),
and where a drain ends with its order handed back BAY (ORDER_INTERRUPTED) joins the attention set before QUEUE (ORDER_RETURNED)
(log entry 43): the model's choices. -/
def Obligations.UnitsArePaid : Prop :=
  ∀ (b : BayId) (s : State),
    (∀ t, (s.bay b).kind ≠ some .cash →
      exec (.unitDone b t) s = .next ((s.at t).modBay b fun y => { y with unitDone := Line.passing true }).transmit)
    ∧ (∀ t, (s.bay b).kind = some .cash → (s.bay b).service.unitTimer = none
        ∨ ((s.bay b).state ≠ .serving ∧ (s.bay b).state ≠ .stopping) →
      exec (.unitDone b t) s = .next (State.join (.bay b) ((s.at t).modBay b fun y => { y with
        unitDone := Line.passing true
        stray := min 65535 (y.stray + 1)
        flags := { y.flags with strayUnit := true } })).transmit)
    ∧ (∀ t due xs o ys, (s.bay b).kind = some .cash → (s.bay b).service.unitTimer = some due →
      s.queue.orders = xs ++ o :: ys → (∀ x ∈ xs, x.number ≠ o.number) → (s.bay b).service.order = some o.number →
      let paid := o.paid + s.settings.cashUnit
      let counted (y : Bay) : Bay := { y with
        unitDone := Line.passing true, service := { y.service with unitTimer := none, units := y.service.units + 1 } }
      let drained (y : Bay) : Bay := { Bay.unpowered (if (s.bay b).enable = true then .powering else .off) y with
        powerTimer := if (s.bay b).enable = true then some (t + 800) else none }
      let paidTo (u : State) : State := { u with queue := { s.queue with orders := xs ++ { o with paid := paid } :: ys } }
      ((s.bay b).state = .serving → paid < o.amount →
        ((s.bay b).service.pulse ≠ none → exec (.unitDone b t) s = .next (paidTo ((s.at t).modBay b counted)).transmit)
        ∧ (∀ e, (s.bay b).service.pulse = none → (s.bay b).service.pulseEnd = some e → 80 ≤ Tick.since t e →
          exec (.unitDone b t) s = .next (paidTo ((s.at t).modBay b fun y => { counted y with service :=
            { (counted y).service with
              pulse := some (t + 80), unitTimer := some (t + 4000), nextUnit := none } })).transmit)
        ∧ (∀ e, (s.bay b).service.pulse = none → (s.bay b).service.pulseEnd = some e → Tick.since t e < 80 →
          exec (.unitDone b t) s = .next (paidTo ((s.at t).modBay b fun y => { counted y with service :=
            { (counted y).service with nextUnit := some (e + 80) } })).transmit))
      ∧ (o.amount ≤ paid →
        let finished : State := State.join (.bay b) (State.raiseQueue (fun f => { f with orderDone := true })
          (State.dropCommitment { (s.at t).modBay b counted with queue := { s.queue with
            orders := xs ++ ys
            history := (s.queue.history ++ [{ o with paid := o.amount, state := .done, bay := none }]).drop
              (s.queue.history.length + 1 - 8) } }))
        ((s.bay b).state = .serving →
          exec (.unitDone b t) s = .next (State.arbitrate (finished.modBay b fun y => { y with
            state := .ready
            flags := { y.flags with orderDone := true }
            service := { y.service with
              order := none, unitTimer := none, nextUnit := none, print := none, printFrame := []
              printTimer := none } })).transmit)
        ∧ ((s.bay b).state = .stopping →
          exec (.unitDone b t) s = .next (finished.modBay b fun y => { drained y with
            flags := { y.flags with orderDone := true } }).transmit))
      ∧ ((s.bay b).state = .stopping → paid < o.amount →
        exec (.unitDone b t) s = .next (State.handsBack b (some o) (paidTo ((s.at t).modBay b fun y =>
          drained (counted y)))).transmit))
    ∧ (∀ due, (s.bay b).service.pulse = some due →
      let u := s.reach due
      exec (.unitReqPulseEnd b) s = .next (u.modBay b fun y => { y with service := { y.service with
        pulse := none
        pulseEnd := some u.tick
        nextUnit := if y.state = .serving ∧ y.kind = some .cash ∧ y.service.unitTimer = none
          then some (u.tick + 80) else none } }).transmit)
    ∧ (∀ due, (s.bay b).service.nextUnit = some due →
      let u := s.reach due
      exec (.nextUnitStart b) s = .next (u.modBay b fun y => { y with service := { y.service with
        pulse := some (u.tick + 80), unitTimer := some (u.tick + 4000), nextUnit := none } }).transmit)
    ∧ ((s.bay b).service.pulse = none → exec (.unitReqPulseEnd b) s = .next s.transmit)
    ∧ ((s.bay b).service.nextUnit = none → exec (.nextUnitStart b) s = .next s.transmit)

/-- Printing. The last byte of PRINT starts the print timer of 5 s. At a VOUCHER bay, whatever its state (log entry 33), a frame
with a good check that is PRINTED or FAILED, of its kind's length, with the outstanding voucher and attempt numbers is an answer,
while PRINT is still being sent too (log entry 25): PRINTED makes the order DONE and the bay READY, FAILED takes the bay to FAULT
with PRINT_FAILED and the code, the order interrupted; in STOPPING either ends the drain, the bay OFF, or POWERING with its enable
on again; any other frame is discarded. A framing error, a gap of more than 20 ms, on the tick it ends (log entry 2), or a bad LEN
abandons a frame, a late byte being taken as if hunting, and a start bit that is not accepted changes nothing in it; at any other
bay BAY_RX is ignored (R5, R136, R144, R149, R154, R155, R162, R176). With no frame begun BAY_RX_GAP_TIMEOUT does nothing, nor does
PRINT_SENT with no PRINT frame (log entry 15). With a CHECK byte due BAY_RX_BYTE and BAY_FRAME_RECEIVED do the same, whatever the
character; with none due BAY_FRAME_RECEIVED only sets the clock, the model's choice (log entry 37). -/
def Obligations.VouchersArePrinted : Prop :=
  ∀ (b : BayId) (s : State),
    ((s.bay b).service.printFrame ≠ [] → exec (.printSent b) s = .next (s.modBay b fun y => { y with
      service := { y.service with printFrame := [], printTimer := some (s.tick + 20000) } }).transmit)
    ∧ (∀ bs, (s.bay b).rx.buffer = some bs → exec (.bayRxGapTimeout b) s = .next
      ((s.reach ((s.bay b).rx.lastStop + 81)).modBay b fun y => { y with rx := { y.rx with buffer := none } }).transmit)
    ∧ ((s.bay b).rx.buffer = none → exec (.bayRxGapTimeout b) s = .next s.transmit)
    ∧ ((s.bay b).service.printFrame = [] → exec (.printSent b) s = .next s.transmit)
    ∧ (∀ start t cells, (s.bay b).kind ≠ some .voucher → exec (.bayRxByte b start t cells) s = .next (s.at t).transmit
      ∧ exec (.bayFrameReceived b start t cells) s = .next (s.at t).transmit)
    ∧ (∀ start t cells, (s.bay b).kind = some .voucher → readCharacter cells = .framingError →
      exec (.bayRxByte b start t cells) s = .next ((s.at t).modBay b fun y => { y with rx := ⟨none, t, true⟩ }).transmit)
    ∧ (∀ start t cells, (s.bay b).kind = some .voucher → readCharacter cells = .dropped →
      exec (.bayRxByte b start t cells) s = .next ((s.at t).modBay b fun y => { y with
        rx := { y.rx with waitHigh := false } }).transmit)
    ∧ (∀ start t cells len body, (s.bay b).rx.buffer = some (len :: body) → body.length = len.toNat →
      exec (.bayFrameReceived b start t cells) s = exec (.bayRxByte b start t cells) s)
    ∧ (∀ start t cells, (∀ len body, (s.bay b).rx.buffer = some (len :: body) → body.length ≠ len.toNat) →
      exec (.bayFrameReceived b start t cells) s = .next (s.at t).transmit)
    ∧ ∀ start t cells byte, (s.bay b).kind = some .voucher → readCharacter cells = .byte byte →
      let received (buffer : Option (List Byte)) : Prop :=
        exec (.bayRxByte b start t cells) s = .next ((s.at t).modBay b fun y => { y with rx := ⟨buffer, t, false⟩ }).transmit
      ((s.bay b).rx.buffer = none → received (if byte = 0xA7 then some [] else none))
      ∧ (∀ bs, (s.bay b).rx.buffer = some bs → 80 < Tick.since start (s.bay b).rx.lastStop →
        received (if byte = 0xA7 then some [] else none))
      ∧ ((s.bay b).rx.buffer = some [] → Tick.since start (s.bay b).rx.lastStop ≤ 80 →
        received (if byte = 0 ∨ 250 < byte.toNat then none else some [byte]))
      ∧ (∀ len body, (s.bay b).rx.buffer = some (len :: body) → body.length < len.toNat →
        Tick.since start (s.bay b).rx.lastStop ≤ 80 → received (some (len :: body ++ [byte])))
      ∧ (∀ len body, (s.bay b).rx.buffer = some (len :: body) → body.length = len.toNat →
        Tick.since start (s.bay b).rx.lastStop ≤ 80 →
        let c := Instr.bayFrameReceived b start t cells
        let hunting (y : Bay) : Bay := { y with rx := ⟨none, t, false⟩ }
        let discarded : Prop := exec c s = .next ((s.at t).modBay b hunting).transmit
        (len + body.sum + byte ≠ 0 ∨ (s.bay b).service.print = none
            ∨ ((s.bay b).state ≠ .serving ∧ (s.bay b).state ≠ .stopping)
            ∨ (body.headD 0 ≠ 0x51 ∧ body.headD 0 ≠ 0x52) ∨ (body.headD 0 = 0x51 ∧ body.length ≠ 6)
            ∨ (body.headD 0 = 0x52 ∧ body.length ≠ 7) → discarded)
        ∧ ∀ d0 d1 n0 n1 k job xs o ys, len + body.sum + byte = 0 →
          (s.bay b).state = .serving ∨ (s.bay b).state = .stopping →
          (s.bay b).service.print = some job → (s.bay b).service.order = some o.number →
          s.queue.orders = xs ++ o :: ys → (∀ x ∈ xs, x.number ≠ o.number) →
          let same : Prop := d0.toNat + 256 * d1.toNat = job.day ∧ n0.toNat + 256 * n1.toNat = job.sequence
            ∧ k.toNat = job.attempt
          let drained (y : Bay) : Bay := { Bay.unpowered (if (s.bay b).enable = true then .powering else .off) y with
            powerTimer := if (s.bay b).enable = true then some (t + 800) else none }
          (∀ code, (body = [0x51, d0, d1, n0, n1, k] ∨ body = [0x52, d0, d1, n0, n1, k, code]) → ¬ same → discarded)
          ∧ (body = [0x51, d0, d1, n0, n1, k] → same →
            let finished : State := State.join (.bay b) (State.raiseQueue (fun f => { f with orderDone := true })
              (State.dropCommitment { (s.at t).modBay b hunting with queue := { s.queue with
                orders := xs ++ ys
                history := (s.queue.history ++ [{ o with paid := o.amount, state := .done, bay := none }]).drop
                  (s.queue.history.length + 1 - 8) } }))
            ((s.bay b).state = .serving → exec c s = .next (State.arbitrate (finished.modBay b fun y => { y with
              state := .ready
              flags := { y.flags with orderDone := true }
              service := { y.service with
                order := none, unitTimer := none, nextUnit := none, print := none, printFrame := []
                printTimer := none } })).transmit)
            ∧ ((s.bay b).state = .stopping → exec c s = .next (finished.modBay b fun y => { drained y with
              flags := { y.flags with orderDone := true } }).transmit))
          ∧ ∀ code, body = [0x52, d0, d1, n0, n1, k, code] → same →
            let failed (f : Bay → Bay) : Prop :=
              exec c s = .next (State.handsBack b (some o) (State.join (.bay b) ((s.at t).modBay b fun y =>
                { f (hunting y) with
                  lastFault := some (.printFailed code), flags := { y.flags with fault := true } }))).transmit
            ((s.bay b).state = .serving → failed (Bay.unpowered .fault))
            ∧ ((s.bay b).state = .stopping → failed drained))

/-! ### Reading -/

/-- IDENT and STATE report the part's codes, its numbers of lanes and bays, the store state, the part state, the day, every lane's
and bay's state, the pending orders and the pressure; CONFIG_READ, ACCT_READ, DOCKET_READ, LANE_READ, SETTLE_READ, ORDER_LIST and
BAY_READ report what they name, and are refused RANGE for what does not exist, NO_DOCKET for an empty docket slot, and NOT_FOUND
for a settlement not kept. Reading changes nothing (R69, R94, R97, R98, R103, R124, R140, R157, R169, R172, R173, R174, R180). An
EMPTY slot's fields are sent as 0 (log entry 20); the presence bytes of LANE_READ and the layouts and sizes that R172 leaves open,
those of enumeration codes among them, are the model's choices (log entries 16, 18, 19, 44 and 46). -/
def Obligations.ReadingReports : Prop :=
  (∀ n, le2 n = [byteOf n, byteOf (n / 256)] ∧ le3 n = [byteOf n, byteOf (n / 256), byteOf (n / 65536)]
      ∧ le4 n = [byteOf n, byteOf (n / 256), byteOf (n / 65536), byteOf (n / 16777216)] ∧ (byteOf n).toNat = n % 256)
  ∧ [Method.cash, .voucher, .account].map Method.code = [0, 1, 2] ∧ [Condition.good, .damaged].map Condition.code = [0, 1]
  ∧ [RunSource.auto, .manual].map RunSource.code = [0, 1]
  ∧ [LaneState.off, .homing, .running, .held].map LaneState.code = [0, 1, 2, 3]
  ∧ [DocketState.opened, .quiet, .closing].map DocketState.code = [0, 1, 2]
  ∧ [PartState.starting, .closed, .opened].map PartState.code = [0, 1, 2]
  ∧ [Pressure.normal, .high].map Pressure.code = [0, 1]
  ∧ [BayState.vacant, .misseated, .unsupported, .off, .powering, .starting, .ready, .serving, .stopping, .fault].map BayState.code
    = [0, 1, 2, 3, 4, 5, 6, 7, 8, 9]
  ∧ (∀ code, [FaultCause.noReady, .moduleFault, .readyLost, .unitTimeout, .printTimeout, .printFailed code].map FaultCause.code
    = [1, 2, 3, 4, 5, 6])
  ∧ [RefuseReason.speed, .unsteady, .afterClose, .lengthMismatch, .foreign, .unknownType, .untagged, .docketFull].map
    RefuseReason.code = [0, 1, 2, 3, 4, 5, 6, 7]
  ∧ ∀ s : State, s.free →
    let answers (c : Instr) (r : Request) (st : Status) (payload : List Byte) : Prop :=
      exec c s = .next (s.heard.answered r st payload).transmit
    answers .ident .ident .ok [0x17, 0x03, 0x00, 0x04, byteOf Config.siliconRevision, 4, 2, if s.part.storeValid then 1 else 0]
    ∧ answers .state .state .ok (byteOf s.part.state.code :: le2 s.part.day ++ [byteOf (s.lane 0).state.code,
        byteOf (s.lane 1).state.code, byteOf (s.lane 2).state.code, byteOf (s.lane 3).state.code, byteOf (s.bay 0).state.code,
        byteOf (s.bay 1).state.code, byteOf s.queue.orders.length, byteOf s.queue.pressure.code])
    ∧ (s.part.state ≠ .starting →
      answers .configRead .configRead .ok (36 :: s.settings.items.flatMap fun c =>
        [byteOf c.code, byteOf c.index, byteOf c.value, byteOf (c.value / 256)])
      ∧ (∀ index, 64 ≤ index → answers (.acctRead index) (.acctRead index) .range [])
      ∧ (∀ index, index < 64 → s.account index = none →
        answers (.acctRead index) (.acctRead index) .ok (byteOf index :: List.replicate 19 0))
      ∧ (∀ index a, s.account index = some a →
        let pairs := ((List.finRange 24).filter fun t => a.outstanding[t] ≠ 0)
        answers (.acctRead index) (.acctRead index) .ok ([byteOf index, if a.suspended then 2 else 1,
          byteOf (a.cash.toNat + 2 * a.voucher.toNat)] ++ le4 a.number ++ le4 a.dayCap ++ le4 a.paidToday ++ le4 a.credit
          ++ [byteOf pairs.length] ++ pairs.flatMap fun t => byteOf t.val :: le2 a.outstanding[t]))
      ∧ (∀ lane, 4 ≤ lane → answers (.docketRead lane) (.docketRead lane) .range []
        ∧ answers (.laneRead lane) (.laneRead lane) .range [])
      ∧ (∀ i : LaneId,
        let l := s.lane i
        let tick (x : Option Tick) : List Byte := match x with | some t => le4 t.toNat | none => []
        let passage (p : Passage) : List Byte := le2 p.seq ++ le4 p.tAOn.toNat
          ++ [byteOf (p.tAOff.isSome.toNat + 2 * p.tBOn.isSome.toNat + 4 * p.tBOff.isSome.toNat + 8 * p.gateArrival.isSome.toNat
            + 16 * p.gateClear.isSome.toNat + 32 * p.length.isSome.toNat + 64 * p.tag.isSome.toNat
            + 128 * p.unsteady.isSome.toNat)]
          ++ tick p.tAOff ++ tick p.tBOn ++ tick p.tBOff ++ tick p.gateArrival ++ tick p.gateClear
          ++ (match p.length with | some n => le2 n ++ le3 (p.speed.getD 0) | none => [])
          ++ (match p.tag with | some g => byteOf g.owner :: le2 g.code | none => [])
          ++ [byteOf p.necks, byteOf p.damaged.toNat]
          ++ (match p.unsteady with | some .speed => [0] | some .unsteady => [1] | none => [])
        let disposed (p : Passage) : List Byte := (match p.disposition with
            | some (.accept _ _ _) => [0, 0] | some (.refuse r) => [1, 1, byteOf r.code] | none => [0])
          ++ [byteOf p.committed.toNat]
        let target : Option Byte := ((l.travel.filter fun p => !p.committed).head?.bind Passage.disposition).map fun d =>
          match d with | .accept _ _ _ => 0 | .refuse _ => 1
        answers (.laneRead i) (.laneRead i) .ok (le4 s.tick.toNat ++ [byteOf l.state.code,
            byteOf (l.holds.crowded.toNat + 2 * l.holds.strayAtB.toNat + 4 * l.holds.jam.toNat + 8 * l.holds.lateDivert.toNat
              + 16 * l.holds.diverterHome.toNat + 32 * l.holds.requested.toNat + 64 * l.holds.cancelled.toNat),
            byteOf s.settings.lanes[i].enable.toNat, byteOf (3 * l.docket.isSome.toNat + 4 * target.isSome.toNat)]
          ++ (match l.docket with | some d => le2 d.number ++ [byteOf d.state.code] | none => [])
          ++ [BitVec.ofInt 8 s.settings.lanes[i].trim, byteOf l.diverter.position, byteOf l.diverter.homed.toNat]
          ++ target.toList ++ [byteOf l.diverter.step.isSome.toNat, byteOf l.span.length] ++ l.span.flatMap passage
          ++ [byteOf l.travel.length] ++ l.travel.flatMap fun p => passage p ++ disposed p)
        ∧ ((s.lane i).docket = none → answers (.docketRead i) (.docketRead i) .noDocket [])
        ∧ ∀ d, (s.lane i).docket = some d → answers (.docketRead i) (.docketRead i) .ok (le2 d.number
          ++ [byteOf i.val, byteOf d.account, byteOf d.method.code, byteOf d.state.code] ++ le2 d.openedDay
          ++ (match d.closeCause with | none => [0] | some .request => [1, 0] | some .auto => [1, 1])
          ++ le2 d.accepted ++ le2 d.refused ++ le2 d.misrouted ++ le2 d.voided
          ++ [byteOf d.runs.length, byteOf d.reserved, byteOf (d.plan.map PlanEntry.pending).sum]
          ++ d.runs.flatMap fun r => [byteOf r.key.type, byteOf (r.key.condition.code + 2 * r.key.source.code),
            byteOf r.key.bottles, byteOf r.count]))
      ∧ (∀ n line, n = 0 ∨ 24 ≤ line → answers (.settleRead n line) (.settleRead n line) .range [])
      ∧ (∀ n line, n ≠ 0 → line < 24 →
        ((∀ r ∈ s.settlements, r.docket ≠ n) → answers (.settleRead n line) (.settleRead n line) .notFound [])
        ∧ ∀ xs r ys, s.settlements = xs ++ r :: ys → r.docket = n → (∀ q ∈ ys, q.docket ≠ n) →
          answers (.settleRead n line) (.settleRead n line) .ok (le2 r.docket
            ++ [byteOf (r.account % 64 + 64 * r.lane)] ++ le4 r.accountNumber
            ++ [byteOf (r.requested.code + 4 * r.applied.code + (if r.closeCause = .auto then 16 else 0)
                + 32 * r.order.isSome.toNat),
              byteOf (r.flags.saturated.toNat + 2 * r.flags.suspendedDowngrade.toNat + 4 * r.flags.methodDowngrade.toNat
                + 8 * r.flags.capLimited.toNat + 16 * r.flags.rounded.toNat + 32 * r.flags.creditSaturated.toNat)]
            ++ le2 r.day ++ le4 r.credit ++ le4 r.payout ++ le4 r.posted
            ++ (match r.order with | some n => le2 n | none => [])
            ++ le2 r.refused ++ le2 r.misrouted ++ le2 r.voided ++ [byteOf r.lines.length, byteOf line]
            ++ ((r.lines.drop line).take 16).flatMap fun l => le4 (l.subtotal % 2 ^ 27 + 2 ^ 27 * (l.type % 32)) ++ le2 l.good
              ++ le2 l.damaged ++ le3 l.bottles ++ le2 l.matched))
      ∧ (∀ list first, 2 ≤ list ∨ 16 ≤ first → answers (.orderList list first) (.orderList list first) .range [])
      ∧ (∀ list first, list < 2 → first < 16 →
        let orders := if list = 0 then s.queue.orders else s.queue.history
        answers (.orderList list first) (.orderList list first) .ok ([byteOf s.queue.commitments, byteOf s.queue.pressure.code,
          byteOf orders.length, byteOf first] ++ ((orders.drop first).take 8).flatMap fun o =>
          le2 o.number ++ [byteOf o.account, byteOf ((match o.state with
              | .waiting => 0 | .serving => 1 | .done => 2 | .cancelled => 3)
            + (if o.method = .voucher then 4 else 0) + 8 * o.bay.isSome.toNat + (if o.bay = some 1 then 16 else 0)
            + 32 * o.docket.isSome.toNat + 64 * o.voucher.isSome.toNat)]
          ++ (match o.docket with | some d => le2 d | none => []) ++ le4 o.amount ++ le4 o.paid
          ++ (match o.voucher with | some v => le2 v.1 ++ le2 v.2 | none => []) ++ [byteOf o.attempts]))
      ∧ (∀ bay, 2 ≤ bay → answers (.bayRead bay) (.bayRead bay) .range [])
      ∧ ∀ (b : BayId) (order : Option PayOrder), s.bayServes b order →
        let y := s.bay b
        let cash := decide (y.kind = some .cash ∧ (y.state = .serving ∨ y.state = .stopping))
        answers (.bayRead b) (.bayRead b) .ok ([byteOf y.state.code, byteOf y.enable.toNat,
            byteOf (y.kind.isSome.toNat + 2 * y.lastFault.isSome.toNat + 4 * order.isSome.toNat + 8 * cash.toNat
              + 16 * (y.service.unitTimer.isSome || y.service.print.isSome).toNat)]
          ++ (match y.kind with | some .cash => [1] | some .voucher => [2] | some .unsupported => [3] | none => [])
          ++ [byteOf y.seat1.level.toNat, byteOf y.seat2.level.toNat]
          ++ (match y.lastFault with | some (.printFailed code) => [6, code] | some c => [byteOf c.code] | none => [])
          ++ (match order with | some o => le2 o.number ++ le4 o.amount ++ le4 o.paid | none => [])
          ++ (if cash = true then le4 y.service.units else [])
          ++ (match y.service.unitTimer, y.service.print with
            | some _, _ => [0] | none, some job => [1, byteOf job.attempt] | none, none => [])
          ++ le2 y.stray ++ le2 (s.part.voucherSeq.getD 0)))

/-! ### Invariants -/

/-- Every step keeps the attention set free of repetitions (R167). -/
def Obligations.StepKeepsAttentionOnce : Prop :=
  ∀ s : State, AttentionOnce s → ∃ t, step s = .next t ∧ AttentionOnce t

/-- Every step keeps every account within its ranges, paid today within the day cap, and account numbers in one slot each
(R97, R99). -/
def Obligations.StepKeepsAccountsSound : Prop :=
  ∀ s : State, AccountsSound s → ∃ t, step s = .next t ∧ AccountsSound t

/-- Every step keeps the working type table, both stored images and the one being saved consistent (R25, R29, R182). -/
def Obligations.StepKeepsTypesSound : Prop :=
  ∀ s : State, TypesSound s → ∃ t, step s = .next t ∧ TypesSound t

/-- Every step keeps every lane sound: hold reasons exactly in HELD, nothing in flight outside RUNNING, a docket where the
lane's state has one, lists within their places (R44, R55, R58, R59, R60). -/
def Obligations.StepKeepsLanesSound : Prop :=
  ∀ s : State, LanesSound s → ∃ t, step s = .next t ∧ LanesSound t

/-- Every step keeps every docket sound: at most 48 runs used and reserved, the accepted count the sum of the runs, the
reserved count the unmade entries, and a plan whose targets exist (R72, R77, R78, R79). -/
def Obligations.StepKeepsDocketsSound : Prop :=
  ∀ s : State, DocketsSound s → ∃ t, step s = .next t ∧ DocketsSound t

/-- Every step keeps the commitment count equal to the pending orders and the CASH and VOUCHER dockets (R131). -/
def Obligations.StepKeepsCommitmentsCounted : Prop :=
  ∀ s : State, CommitmentsCounted s → ∃ t, step s = .next t ∧ CommitmentsCounted t

/-- Every step keeps the pressure sound: good marks, the count below HIGH_MARK in NORMAL, and at most 16 commitments, so that
the pending list never overflows (R130, R131, R132). -/
def Obligations.StepKeepsPressureSound : Prop :=
  ∀ s : State, PressureSound s → ∃ t, step s = .next t ∧ PressureSound t

/-- The machine right after reset meets every invariant. -/
def Obligations.ResetIsSound : Prop :=
  AttentionOnce State.reset ∧ AccountsSound State.reset ∧ TypesSound State.reset ∧ LanesSound State.reset
    ∧ DocketsSound State.reset ∧ CommitmentsCounted State.reset ∧ PressureSound State.reset
end

