-- ==== Sys2Proof/Laws/State.lean ====
section
/-! SUPPORT. What each named update of the state changes and what it leaves: one lemma per field, and reading back the lane or
bay that was changed. -/

namespace Sys2Proof.Machine

variable (s : State)


/-! ### modLane -/

@[simp] theorem State.modLane_tick (i : LaneId) (f : Lane → Lane) : (s.modLane i f).tick = s.tick := rfl
@[simp] theorem State.modLane_bays (i : LaneId) (f : Lane → Lane) : (s.modLane i f).bays = s.bays := rfl
@[simp] theorem State.modLane_types (i : LaneId) (f : Lane → Lane) : (s.modLane i f).types = s.types := rfl
@[simp] theorem State.modLane_settings (i : LaneId) (f : Lane → Lane) : (s.modLane i f).settings = s.settings := rfl
@[simp] theorem State.modLane_accounts (i : LaneId) (f : Lane → Lane) : (s.modLane i f).accounts = s.accounts := rfl
@[simp] theorem State.modLane_settlements (i : LaneId) (f : Lane → Lane) : (s.modLane i f).settlements = s.settlements := rfl
@[simp] theorem State.modLane_queue (i : LaneId) (f : Lane → Lane) : (s.modLane i f).queue = s.queue := rfl
@[simp] theorem State.modLane_port (i : LaneId) (f : Lane → Lane) : (s.modLane i f).port = s.port := rfl
@[simp] theorem State.modLane_part (i : LaneId) (f : Lane → Lane) : (s.modLane i f).part = s.part := rfl
@[simp] theorem State.modLane_pending (i : LaneId) (f : Lane → Lane) : (s.modLane i f).pending = s.pending := rfl

/-! ### modDocket -/

@[simp] theorem State.modDocket_tick (i : LaneId) (f : Docket → Docket) : (s.modDocket i f).tick = s.tick := rfl
@[simp] theorem State.modDocket_bays (i : LaneId) (f : Docket → Docket) : (s.modDocket i f).bays = s.bays := rfl
@[simp] theorem State.modDocket_types (i : LaneId) (f : Docket → Docket) : (s.modDocket i f).types = s.types := rfl
@[simp] theorem State.modDocket_settings (i : LaneId) (f : Docket → Docket) : (s.modDocket i f).settings = s.settings := rfl
@[simp] theorem State.modDocket_accounts (i : LaneId) (f : Docket → Docket) : (s.modDocket i f).accounts = s.accounts := rfl
@[simp] theorem State.modDocket_settlements (i : LaneId) (f : Docket → Docket) : (s.modDocket i f).settlements = s.settlements := rfl
@[simp] theorem State.modDocket_queue (i : LaneId) (f : Docket → Docket) : (s.modDocket i f).queue = s.queue := rfl
@[simp] theorem State.modDocket_port (i : LaneId) (f : Docket → Docket) : (s.modDocket i f).port = s.port := rfl
@[simp] theorem State.modDocket_part (i : LaneId) (f : Docket → Docket) : (s.modDocket i f).part = s.part := rfl
@[simp] theorem State.modDocket_pending (i : LaneId) (f : Docket → Docket) : (s.modDocket i f).pending = s.pending := rfl

/-! ### modDiverter -/

@[simp] theorem State.modDiverter_tick (i : LaneId) (f : Diverter → Diverter) : (s.modDiverter i f).tick = s.tick := rfl
@[simp] theorem State.modDiverter_bays (i : LaneId) (f : Diverter → Diverter) : (s.modDiverter i f).bays = s.bays := rfl
@[simp] theorem State.modDiverter_types (i : LaneId) (f : Diverter → Diverter) : (s.modDiverter i f).types = s.types := rfl
@[simp] theorem State.modDiverter_settings (i : LaneId) (f : Diverter → Diverter) : (s.modDiverter i f).settings = s.settings := rfl
@[simp] theorem State.modDiverter_accounts (i : LaneId) (f : Diverter → Diverter) : (s.modDiverter i f).accounts = s.accounts := rfl
@[simp] theorem State.modDiverter_settlements (i : LaneId) (f : Diverter → Diverter) : (s.modDiverter i f).settlements = s.settlements := rfl
@[simp] theorem State.modDiverter_queue (i : LaneId) (f : Diverter → Diverter) : (s.modDiverter i f).queue = s.queue := rfl
@[simp] theorem State.modDiverter_port (i : LaneId) (f : Diverter → Diverter) : (s.modDiverter i f).port = s.port := rfl
@[simp] theorem State.modDiverter_part (i : LaneId) (f : Diverter → Diverter) : (s.modDiverter i f).part = s.part := rfl
@[simp] theorem State.modDiverter_pending (i : LaneId) (f : Diverter → Diverter) : (s.modDiverter i f).pending = s.pending := rfl

/-! ### modBay -/

@[simp] theorem State.modBay_tick (b : BayId) (f : Bay → Bay) : (s.modBay b f).tick = s.tick := rfl
@[simp] theorem State.modBay_lanes (b : BayId) (f : Bay → Bay) : (s.modBay b f).lanes = s.lanes := rfl
@[simp] theorem State.modBay_types (b : BayId) (f : Bay → Bay) : (s.modBay b f).types = s.types := rfl
@[simp] theorem State.modBay_settings (b : BayId) (f : Bay → Bay) : (s.modBay b f).settings = s.settings := rfl
@[simp] theorem State.modBay_accounts (b : BayId) (f : Bay → Bay) : (s.modBay b f).accounts = s.accounts := rfl
@[simp] theorem State.modBay_settlements (b : BayId) (f : Bay → Bay) : (s.modBay b f).settlements = s.settlements := rfl
@[simp] theorem State.modBay_queue (b : BayId) (f : Bay → Bay) : (s.modBay b f).queue = s.queue := rfl
@[simp] theorem State.modBay_port (b : BayId) (f : Bay → Bay) : (s.modBay b f).port = s.port := rfl
@[simp] theorem State.modBay_part (b : BayId) (f : Bay → Bay) : (s.modBay b f).part = s.part := rfl
@[simp] theorem State.modBay_pending (b : BayId) (f : Bay → Bay) : (s.modBay b f).pending = s.pending := rfl

/-! ### modService -/

@[simp] theorem State.modService_tick (b : BayId) (f : Service → Service) : (s.modService b f).tick = s.tick := rfl
@[simp] theorem State.modService_lanes (b : BayId) (f : Service → Service) : (s.modService b f).lanes = s.lanes := rfl
@[simp] theorem State.modService_types (b : BayId) (f : Service → Service) : (s.modService b f).types = s.types := rfl
@[simp] theorem State.modService_settings (b : BayId) (f : Service → Service) : (s.modService b f).settings = s.settings := rfl
@[simp] theorem State.modService_accounts (b : BayId) (f : Service → Service) : (s.modService b f).accounts = s.accounts := rfl
@[simp] theorem State.modService_settlements (b : BayId) (f : Service → Service) : (s.modService b f).settlements = s.settlements := rfl
@[simp] theorem State.modService_queue (b : BayId) (f : Service → Service) : (s.modService b f).queue = s.queue := rfl
@[simp] theorem State.modService_port (b : BayId) (f : Service → Service) : (s.modService b f).port = s.port := rfl
@[simp] theorem State.modService_part (b : BayId) (f : Service → Service) : (s.modService b f).part = s.part := rfl
@[simp] theorem State.modService_pending (b : BayId) (f : Service → Service) : (s.modService b f).pending = s.pending := rfl

/-! ### modAccount -/

@[simp] theorem State.modAccount_tick (a : Nat) (f : Account → Account) : (s.modAccount a f).tick = s.tick := rfl
@[simp] theorem State.modAccount_lanes (a : Nat) (f : Account → Account) : (s.modAccount a f).lanes = s.lanes := rfl
@[simp] theorem State.modAccount_bays (a : Nat) (f : Account → Account) : (s.modAccount a f).bays = s.bays := rfl
@[simp] theorem State.modAccount_types (a : Nat) (f : Account → Account) : (s.modAccount a f).types = s.types := rfl
@[simp] theorem State.modAccount_settings (a : Nat) (f : Account → Account) : (s.modAccount a f).settings = s.settings := rfl
@[simp] theorem State.modAccount_settlements (a : Nat) (f : Account → Account) : (s.modAccount a f).settlements = s.settlements := rfl
@[simp] theorem State.modAccount_queue (a : Nat) (f : Account → Account) : (s.modAccount a f).queue = s.queue := rfl
@[simp] theorem State.modAccount_port (a : Nat) (f : Account → Account) : (s.modAccount a f).port = s.port := rfl
@[simp] theorem State.modAccount_part (a : Nat) (f : Account → Account) : (s.modAccount a f).part = s.part := rfl
@[simp] theorem State.modAccount_pending (a : Nat) (f : Account → Account) : (s.modAccount a f).pending = s.pending := rfl

/-! ### modOrders -/

@[simp] theorem State.modOrders_tick (f : List PayOrder → List PayOrder) : (s.modOrders f).tick = s.tick := rfl
@[simp] theorem State.modOrders_lanes (f : List PayOrder → List PayOrder) : (s.modOrders f).lanes = s.lanes := rfl
@[simp] theorem State.modOrders_bays (f : List PayOrder → List PayOrder) : (s.modOrders f).bays = s.bays := rfl
@[simp] theorem State.modOrders_types (f : List PayOrder → List PayOrder) : (s.modOrders f).types = s.types := rfl
@[simp] theorem State.modOrders_settings (f : List PayOrder → List PayOrder) : (s.modOrders f).settings = s.settings := rfl
@[simp] theorem State.modOrders_accounts (f : List PayOrder → List PayOrder) : (s.modOrders f).accounts = s.accounts := rfl
@[simp] theorem State.modOrders_settlements (f : List PayOrder → List PayOrder) : (s.modOrders f).settlements = s.settlements := rfl
@[simp] theorem State.modOrders_port (f : List PayOrder → List PayOrder) : (s.modOrders f).port = s.port := rfl
@[simp] theorem State.modOrders_part (f : List PayOrder → List PayOrder) : (s.modOrders f).part = s.part := rfl
@[simp] theorem State.modOrders_pending (f : List PayOrder → List PayOrder) : (s.modOrders f).pending = s.pending := rfl

/-! ### at -/

@[simp] theorem State.at_lanes (t : Tick) : (s.at t).lanes = s.lanes := rfl
@[simp] theorem State.at_bays (t : Tick) : (s.at t).bays = s.bays := rfl
@[simp] theorem State.at_types (t : Tick) : (s.at t).types = s.types := rfl
@[simp] theorem State.at_settings (t : Tick) : (s.at t).settings = s.settings := rfl
@[simp] theorem State.at_accounts (t : Tick) : (s.at t).accounts = s.accounts := rfl
@[simp] theorem State.at_settlements (t : Tick) : (s.at t).settlements = s.settlements := rfl
@[simp] theorem State.at_queue (t : Tick) : (s.at t).queue = s.queue := rfl
@[simp] theorem State.at_port (t : Tick) : (s.at t).port = s.port := rfl
@[simp] theorem State.at_part (t : Tick) : (s.at t).part = s.part := rfl
@[simp] theorem State.at_pending (t : Tick) : (s.at t).pending = s.pending := rfl

/-! ### join -/

@[simp] theorem State.join_tick (x : Source) : (s.join x).tick = s.tick := rfl
@[simp] theorem State.join_lanes (x : Source) : (s.join x).lanes = s.lanes := rfl
@[simp] theorem State.join_bays (x : Source) : (s.join x).bays = s.bays := rfl
@[simp] theorem State.join_types (x : Source) : (s.join x).types = s.types := rfl
@[simp] theorem State.join_settings (x : Source) : (s.join x).settings = s.settings := rfl
@[simp] theorem State.join_accounts (x : Source) : (s.join x).accounts = s.accounts := rfl
@[simp] theorem State.join_settlements (x : Source) : (s.join x).settlements = s.settlements := rfl
@[simp] theorem State.join_queue (x : Source) : (s.join x).queue = s.queue := rfl
@[simp] theorem State.join_part (x : Source) : (s.join x).part = s.part := rfl
@[simp] theorem State.join_pending (x : Source) : (s.join x).pending = s.pending := rfl

/-! ### raiseLane -/

@[simp] theorem State.raiseLane_tick (i : LaneId) (f : LaneFlags → LaneFlags) : (s.raiseLane i f).tick = s.tick := rfl
@[simp] theorem State.raiseLane_bays (i : LaneId) (f : LaneFlags → LaneFlags) : (s.raiseLane i f).bays = s.bays := rfl
@[simp] theorem State.raiseLane_types (i : LaneId) (f : LaneFlags → LaneFlags) : (s.raiseLane i f).types = s.types := rfl
@[simp] theorem State.raiseLane_settings (i : LaneId) (f : LaneFlags → LaneFlags) : (s.raiseLane i f).settings = s.settings := rfl
@[simp] theorem State.raiseLane_accounts (i : LaneId) (f : LaneFlags → LaneFlags) : (s.raiseLane i f).accounts = s.accounts := rfl
@[simp] theorem State.raiseLane_settlements (i : LaneId) (f : LaneFlags → LaneFlags) : (s.raiseLane i f).settlements = s.settlements := rfl
@[simp] theorem State.raiseLane_queue (i : LaneId) (f : LaneFlags → LaneFlags) : (s.raiseLane i f).queue = s.queue := rfl
@[simp] theorem State.raiseLane_part (i : LaneId) (f : LaneFlags → LaneFlags) : (s.raiseLane i f).part = s.part := rfl
@[simp] theorem State.raiseLane_pending (i : LaneId) (f : LaneFlags → LaneFlags) : (s.raiseLane i f).pending = s.pending := rfl

/-! ### raiseBay -/

@[simp] theorem State.raiseBay_tick (b : BayId) (f : BayFlags → BayFlags) : (s.raiseBay b f).tick = s.tick := rfl
@[simp] theorem State.raiseBay_lanes (b : BayId) (f : BayFlags → BayFlags) : (s.raiseBay b f).lanes = s.lanes := rfl
@[simp] theorem State.raiseBay_types (b : BayId) (f : BayFlags → BayFlags) : (s.raiseBay b f).types = s.types := rfl
@[simp] theorem State.raiseBay_settings (b : BayId) (f : BayFlags → BayFlags) : (s.raiseBay b f).settings = s.settings := rfl
@[simp] theorem State.raiseBay_accounts (b : BayId) (f : BayFlags → BayFlags) : (s.raiseBay b f).accounts = s.accounts := rfl
@[simp] theorem State.raiseBay_settlements (b : BayId) (f : BayFlags → BayFlags) : (s.raiseBay b f).settlements = s.settlements := rfl
@[simp] theorem State.raiseBay_queue (b : BayId) (f : BayFlags → BayFlags) : (s.raiseBay b f).queue = s.queue := rfl
@[simp] theorem State.raiseBay_part (b : BayId) (f : BayFlags → BayFlags) : (s.raiseBay b f).part = s.part := rfl
@[simp] theorem State.raiseBay_pending (b : BayId) (f : BayFlags → BayFlags) : (s.raiseBay b f).pending = s.pending := rfl

/-! ### raiseQueue -/

@[simp] theorem State.raiseQueue_tick (f : QueueFlags → QueueFlags) : (s.raiseQueue f).tick = s.tick := rfl
@[simp] theorem State.raiseQueue_lanes (f : QueueFlags → QueueFlags) : (s.raiseQueue f).lanes = s.lanes := rfl
@[simp] theorem State.raiseQueue_bays (f : QueueFlags → QueueFlags) : (s.raiseQueue f).bays = s.bays := rfl
@[simp] theorem State.raiseQueue_types (f : QueueFlags → QueueFlags) : (s.raiseQueue f).types = s.types := rfl
@[simp] theorem State.raiseQueue_settings (f : QueueFlags → QueueFlags) : (s.raiseQueue f).settings = s.settings := rfl
@[simp] theorem State.raiseQueue_accounts (f : QueueFlags → QueueFlags) : (s.raiseQueue f).accounts = s.accounts := rfl
@[simp] theorem State.raiseQueue_settlements (f : QueueFlags → QueueFlags) : (s.raiseQueue f).settlements = s.settlements := rfl
@[simp] theorem State.raiseQueue_part (f : QueueFlags → QueueFlags) : (s.raiseQueue f).part = s.part := rfl
@[simp] theorem State.raiseQueue_pending (f : QueueFlags → QueueFlags) : (s.raiseQueue f).pending = s.pending := rfl

/-! ### raisePart -/

@[simp] theorem State.raisePart_tick (f : PartFlags → PartFlags) : (s.raisePart f).tick = s.tick := rfl
@[simp] theorem State.raisePart_lanes (f : PartFlags → PartFlags) : (s.raisePart f).lanes = s.lanes := rfl
@[simp] theorem State.raisePart_bays (f : PartFlags → PartFlags) : (s.raisePart f).bays = s.bays := rfl
@[simp] theorem State.raisePart_types (f : PartFlags → PartFlags) : (s.raisePart f).types = s.types := rfl
@[simp] theorem State.raisePart_settings (f : PartFlags → PartFlags) : (s.raisePart f).settings = s.settings := rfl
@[simp] theorem State.raisePart_accounts (f : PartFlags → PartFlags) : (s.raisePart f).accounts = s.accounts := rfl
@[simp] theorem State.raisePart_settlements (f : PartFlags → PartFlags) : (s.raisePart f).settlements = s.settlements := rfl
@[simp] theorem State.raisePart_queue (f : PartFlags → PartFlags) : (s.raisePart f).queue = s.queue := rfl
@[simp] theorem State.raisePart_pending (f : PartFlags → PartFlags) : (s.raisePart f).pending = s.pending := rfl

/-! ### Reading back -/

@[simp] theorem State.at_tick (t : Tick) : (s.at t).tick = t := rfl

@[simp] theorem State.lane_modLane_self (i : LaneId) (f : Lane → Lane) : (s.modLane i f).lane i = f (s.lane i) := by
  simp [State.modLane, State.lane]

theorem State.lane_modLane_ne {i j : LaneId} (h : i ≠ j) (f : Lane → Lane) : (s.modLane i f).lane j = s.lane j := by
  have : i.val ≠ j.val := fun e => h (Fin.ext e)
  simp [State.modLane, State.lane, Vector.getElem_set_ne, this]

theorem State.lane_modLane (i j : LaneId) (f : Lane → Lane) :
    (s.modLane i f).lane j = if i = j then f (s.lane j) else s.lane j := by
  by_cases h : i = j
  · subst h; simp
  · simp [State.lane_modLane_ne, h]

@[simp] theorem State.lane_modDiverter_self (i : LaneId) (f : Diverter → Diverter) :
    (s.modDiverter i f).lane i = { s.lane i with diverter := f (s.lane i).diverter } := by
  simp [State.modDiverter]

@[simp] theorem State.lane_modDocket_self (i : LaneId) (f : Docket → Docket) :
    (s.modDocket i f).lane i = { s.lane i with docket := (s.lane i).docket.map f } := by
  simp [State.modDocket]

@[simp] theorem State.bay_modBay_self (b : BayId) (f : Bay → Bay) : (s.modBay b f).bay b = f (s.bay b) := by
  simp [State.modBay, State.bay]

theorem State.bay_modBay_ne {b c : BayId} (h : b ≠ c) (f : Bay → Bay) : (s.modBay b f).bay c = s.bay c := by
  have : b.val ≠ c.val := fun e => h (Fin.ext e)
  simp [State.modBay, State.bay, Vector.getElem_set_ne, this]

@[simp] theorem State.bay_modService_self (b : BayId) (f : Service → Service) :
    (s.modService b f).bay b = { s.bay b with service := f (s.bay b).service } := by
  simp [State.modService]

/-- Two changes of one lane are one change. -/
theorem State.modLane_modLane (i : LaneId) (f g : Lane → Lane) :
    (s.modLane i f).modLane i g = s.modLane i (g ∘ f) := by
  simp [State.modLane]

/-- Two changes of one bay are one change. -/
theorem State.modBay_modBay (b : BayId) (f g : Bay → Bay) : (s.modBay b f).modBay b g = s.modBay b (g ∘ f) := by
  simp [State.modBay]

@[simp] theorem State.lane_at (t : Tick) (j : LaneId) : (s.at t).lane j = s.lane j := rfl
@[simp] theorem State.lane_modBay (b : BayId) (f : Bay → Bay) (j : LaneId) : (s.modBay b f).lane j = s.lane j := rfl
@[simp] theorem State.lane_modService (b : BayId) (f : Service → Service) (j : LaneId) : (s.modService b f).lane j = s.lane j := rfl
@[simp] theorem State.lane_modAccount (a : Nat) (f : Account → Account) (j : LaneId) : (s.modAccount a f).lane j = s.lane j := rfl
@[simp] theorem State.lane_modOrders (f : List PayOrder → List PayOrder) (j : LaneId) : (s.modOrders f).lane j = s.lane j := rfl
@[simp] theorem State.lane_join (x : Source) (j : LaneId) : (s.join x).lane j = s.lane j := rfl
@[simp] theorem State.lane_raiseBay (b : BayId) (f : BayFlags → BayFlags) (j : LaneId) : (s.raiseBay b f).lane j = s.lane j := rfl
@[simp] theorem State.lane_raiseQueue (f : QueueFlags → QueueFlags) (j : LaneId) : (s.raiseQueue f).lane j = s.lane j := rfl
@[simp] theorem State.lane_raisePart (f : PartFlags → PartFlags) (j : LaneId) : (s.raisePart f).lane j = s.lane j := rfl
@[simp] theorem State.bay_at (t : Tick) (c : BayId) : (s.at t).bay c = s.bay c := rfl
@[simp] theorem State.bay_modLane (i : LaneId) (f : Lane → Lane) (c : BayId) : (s.modLane i f).bay c = s.bay c := rfl
@[simp] theorem State.bay_modDocket (i : LaneId) (f : Docket → Docket) (c : BayId) : (s.modDocket i f).bay c = s.bay c := rfl
@[simp] theorem State.bay_modDiverter (i : LaneId) (f : Diverter → Diverter) (c : BayId) : (s.modDiverter i f).bay c = s.bay c := rfl
@[simp] theorem State.bay_modAccount (a : Nat) (f : Account → Account) (c : BayId) : (s.modAccount a f).bay c = s.bay c := rfl
@[simp] theorem State.bay_modOrders (f : List PayOrder → List PayOrder) (c : BayId) : (s.modOrders f).bay c = s.bay c := rfl
@[simp] theorem State.bay_join (x : Source) (c : BayId) : (s.join x).bay c = s.bay c := rfl
@[simp] theorem State.bay_raiseLane (i : LaneId) (f : LaneFlags → LaneFlags) (c : BayId) : (s.raiseLane i f).bay c = s.bay c := rfl
@[simp] theorem State.bay_raiseQueue (f : QueueFlags → QueueFlags) (c : BayId) : (s.raiseQueue f).bay c = s.bay c := rfl
@[simp] theorem State.bay_raisePart (f : PartFlags → PartFlags) (c : BayId) : (s.raisePart f).bay c = s.bay c := rfl
@[simp] theorem State.laneSettings_at (t : Tick) (j : LaneId) : (s.at t).laneSettings j = s.laneSettings j := rfl
@[simp] theorem State.laneSettings_modLane (i : LaneId) (f : Lane → Lane) (j : LaneId) : (s.modLane i f).laneSettings j = s.laneSettings j := rfl
@[simp] theorem State.laneSettings_modDiverter (i : LaneId) (f : Diverter → Diverter) (j : LaneId) : (s.modDiverter i f).laneSettings j = s.laneSettings j := rfl
@[simp] theorem State.laneSettings_modBay (b : BayId) (f : Bay → Bay) (j : LaneId) : (s.modBay b f).laneSettings j = s.laneSettings j := rfl
@[simp] theorem State.laneSettings_join (x : Source) (j : LaneId) : (s.join x).laneSettings j = s.laneSettings j := rfl
@[simp] theorem State.laneSettings_raiseLane (i : LaneId) (f : LaneFlags → LaneFlags) (j : LaneId) : (s.raiseLane i f).laneSettings j = s.laneSettings j := rfl

@[simp] theorem State.lane_raiseLane_self (i : LaneId) (f : LaneFlags → LaneFlags) :
    (s.raiseLane i f).lane i = { s.lane i with flags := f (s.lane i).flags } := by
  simp [State.raiseLane]

@[simp] theorem State.bay_raiseBay_self (b : BayId) (f : BayFlags → BayFlags) :
    (s.raiseBay b f).bay b = { s.bay b with flags := f (s.bay b).flags } := by
  simp [State.raiseBay]

end Sys2Proof.Machine
end

