-- ==== Sys2Proof/Laws/Ops.lean ====
section
/-! SUPPORT. What each named operation does, once: changing one element of a list, joining the attention set, timers,
requests, and the transmitter's choice. -/

namespace Sys2Proof.Machine

/-! ### Lists -/

theorem modifyFirst_at {α : Type} {p : α → Bool} {f : α → α} {xs ys : List α} {x : α} (h : ∀ q ∈ xs, p q = false)
    (hx : p x = true) : modifyFirst p f (xs ++ x :: ys) = xs ++ f x :: ys := by
  induction xs with
  | nil => simp [modifyFirst, hx]
  | cons a as ih => simp [modifyFirst, h a (by simp), ih fun q hq => h q (by simp [hq])]

theorem modifyFirst_of_none {α : Type} {p : α → Bool} {f : α → α} {xs : List α} (h : ∀ q ∈ xs, p q = false) :
    modifyFirst p f xs = xs := by
  induction xs with
  | nil => rfl
  | cons a as ih => simp [modifyFirst, h a (by simp), ih fun q hq => h q (by simp [hq])]

theorem modifyLast_at {α : Type} {p : α → Bool} {f : α → α} {xs ys : List α} {x : α} (h : ∀ q ∈ ys, p q = false)
    (hx : p x = true) : modifyLast p f (xs ++ x :: ys) = xs ++ f x :: ys := by
  have : modifyFirst p f (ys.reverse ++ x :: xs.reverse) = ys.reverse ++ f x :: xs.reverse :=
    modifyFirst_at (by simpa using h) hx
  simp [modifyLast, this]

theorem modifyLast_of_none {α : Type} {p : α → Bool} {f : α → α} {xs : List α} (h : ∀ q ∈ xs, p q = false) :
    modifyLast p f xs = xs := by
  simp [modifyLast, modifyFirst_of_none (p := p) (f := f) (xs := xs.reverse) (by simpa using h)]

theorem eraseP_at {α : Type} {p : α → Bool} {xs ys : List α} {x : α} (h : ∀ q ∈ xs, p q = false) (hx : p x = true) :
    (xs ++ x :: ys).eraseP p = xs ++ ys := by
  induction xs with
  | nil => simp [hx]
  | cons a as ih => simp [h a (by simp), ih fun q hq => h q (by simp [hq])]

theorem find?_at {α : Type} {p : α → Bool} {xs ys : List α} {x : α} (h : ∀ q ∈ xs, p q = false) (hx : p x = true) :
    (xs ++ x :: ys).find? p = some x := by
  induction xs with
  | nil => simp [hx]
  | cons a as ih => simp [h a (by simp), ih fun q hq => h q (by simp [hq])]

/-! ### Changing one lane or bay -/

variable (s : State)

/-- Two changes of a lane that agree on the lane as it stands are one. -/
theorem State.modLane_congr {s : State} {i : LaneId} {f g : Lane → Lane} (h : f (s.lane i) = g (s.lane i)) :
    s.modLane i f = s.modLane i g := by
  simp only [State.modLane]; rw [show f s.lanes[i] = g s.lanes[i] from h]

/-- A change that leaves the lane as it stands leaves the state. -/
theorem State.modLane_eq_self {s : State} {i : LaneId} {f : Lane → Lane} (h : f (s.lane i) = s.lane i) :
    s.modLane i f = s := by
  simp only [State.modLane]; rw [show f s.lanes[i] = s.lanes[i] from h]; simp

/-- Two changes of a bay that agree on the bay as it stands are one. -/
theorem State.modBay_congr {s : State} {b : BayId} {f g : Bay → Bay} (h : f (s.bay b) = g (s.bay b)) :
    s.modBay b f = s.modBay b g := by
  simp only [State.modBay]; rw [show f s.bays[b] = g s.bays[b] from h]

/-- A change that leaves the bay as it stands leaves the state. -/
theorem State.modBay_eq_self {s : State} {b : BayId} {f : Bay → Bay} (h : f (s.bay b) = s.bay b) : s.modBay b f = s := by
  simp only [State.modBay]; rw [show f s.bays[b] = s.bays[b] from h]; simp

/-! ### The attention set -/

theorem joinSource_joinSource (x : Source) (set : List Source) : joinSource x (joinSource x set) = joinSource x set := by
  unfold joinSource; split <;> simp_all

theorem joinSource_nodup {x : Source} {set : List Source} (h : set.Nodup) : (joinSource x set).Nodup := by
  unfold joinSource; split
  · exact h
  · rw [List.nodup_append]; simp_all; intro a ha e; subst e; contradiction

/-- Joining twice is joining once. -/
@[simp] theorem State.join_join (x : Source) : (s.join x).join x = s.join x := by
  simp only [State.join, joinSource_joinSource]

theorem State.modLane_join (x : Source) (i : LaneId) (f : Lane → Lane) :
    (s.join x).modLane i f = (s.modLane i f).join x := rfl

theorem State.modBay_join (x : Source) (b : BayId) (f : Bay → Bay) : (s.join x).modBay b f = (s.modBay b f).join x := rfl

/-- Setting a lane's flags after another change of the lane is one change and one joining. -/
theorem State.raiseLane_eq (i : LaneId) (f : LaneFlags → LaneFlags) :
    s.raiseLane i f = (s.modLane i fun l => { l with flags := f l.flags }).join (.lane i) := rfl

/-! ### Timers -/

@[simp] theorem State.jamDue_modLane (i : LaneId) (f : Lane → Lane) : (s.modLane i f).jamDue = s.jamDue := rfl
@[simp] theorem State.quietDue_modLane (i : LaneId) (f : Lane → Lane) : (s.modLane i f).quietDue = s.quietDue := rfl
@[simp] theorem State.autoCloseDue_modLane (i : LaneId) (f : Lane → Lane) :
    (s.modLane i f).autoCloseDue = s.autoCloseDue := rfl
@[simp] theorem State.stepTicks_modLane (i j : LaneId) (f : Lane → Lane) : (s.modLane i f).stepTicks j = s.stepTicks j := rfl
@[simp] theorem State.after_modLane (i : LaneId) (f : Lane → Lane) (n : Nat) : (s.modLane i f).after n = s.after n := rfl
@[simp] theorem State.jamDue_modDiverter (i : LaneId) (f : Diverter → Diverter) : (s.modDiverter i f).jamDue = s.jamDue := rfl
@[simp] theorem State.quietDue_modDiverter (i : LaneId) (f : Diverter → Diverter) :
    (s.modDiverter i f).quietDue = s.quietDue := rfl
@[simp] theorem State.autoCloseDue_modDiverter (i : LaneId) (f : Diverter → Diverter) :
    (s.modDiverter i f).autoCloseDue = s.autoCloseDue := rfl
@[simp] theorem State.stepTicks_modDiverter (i j : LaneId) (f : Diverter → Diverter) :
    (s.modDiverter i f).stepTicks j = s.stepTicks j := rfl
@[simp] theorem State.after_modDiverter (i : LaneId) (f : Diverter → Diverter) (n : Nat) :
    (s.modDiverter i f).after n = s.after n := rfl

theorem State.quietDue_eq : s.quietDue = s.tick + BitVec.ofNat 32 (s.settings.quietTime * 4000) := rfl
theorem State.jamDue_eq : s.jamDue = s.tick + BitVec.ofNat 32 (s.settings.jamTime * 4000) := rfl

/-- The clock is all that reaching a tick changes. -/
theorem State.reach_eq (due : Tick) : s.reach due = s.at (s.reach due).tick := by
  unfold State.reach; split <;> rfl

@[simp] theorem State.reach_lane (due : Tick) (j : LaneId) : (s.reach due).lane j = s.lane j := by rw [State.reach_eq]; rfl
@[simp] theorem State.reach_bay (due : Tick) (c : BayId) : (s.reach due).bay c = s.bay c := by rw [State.reach_eq]; rfl
@[simp] theorem State.reach_settings (due : Tick) : (s.reach due).settings = s.settings := by rw [State.reach_eq]; rfl
@[simp] theorem State.reach_types (due : Tick) : (s.reach due).types = s.types := by rw [State.reach_eq]; rfl
@[simp] theorem State.reach_accounts (due : Tick) : (s.reach due).accounts = s.accounts := by rw [State.reach_eq]; rfl
@[simp] theorem State.reach_settlements (due : Tick) : (s.reach due).settlements = s.settlements := by
  rw [State.reach_eq]; rfl
@[simp] theorem State.reach_queue (due : Tick) : (s.reach due).queue = s.queue := by rw [State.reach_eq]; rfl
@[simp] theorem State.reach_port (due : Tick) : (s.reach due).port = s.port := by rw [State.reach_eq]; rfl
@[simp] theorem State.reach_part (due : Tick) : (s.reach due).part = s.part := by rw [State.reach_eq]; rfl
@[simp] theorem State.reach_pending (due : Tick) : (s.reach due).pending = s.pending := by rw [State.reach_eq]; rfl
@[simp] theorem State.reach_laneSettings (due : Tick) (i : LaneId) : (s.reach due).laneSettings i = s.laneSettings i := by
  rw [State.reach_eq]; rfl

/-! ### Holding a lane (R58 to R60) -/

/-- Stopping a lane for a reason its set does not hold is one change, `Lane.heldBy`, and one joining. -/
theorem State.holdLane_eq {s : State} {i : LaneId} {r : HoldReason} (h : (s.lane i).holds.has r = false) :
    s.holdLane i r = (s.modLane i (Lane.heldBy r)).join (.lane i) := by
  have h' : ((s.modLane i Lane.hold).lane i).holds.has r = false := by rw [State.lane_modLane_self]; exact h
  unfold State.holdLane State.addHold
  rw [if_neg (by rw [h']; decide)]
  unfold State.raiseVoided
  split <;> rename_i hv
  · simp only [State.raiseLane, State.modLane_modLane]
    congr 1; apply State.modLane_congr
    simp [Lane.hold, Lane.stopService, Lane.heldBy, satAdd, hv]
  · simp only [State.raiseLane, State.modLane_modLane, State.modLane_join, State.join_join]
    congr 1; apply State.modLane_congr
    simp [Lane.hold, Lane.stopService, Lane.heldBy, satAdd, Nat.pos_of_ne_zero hv]

@[simp] theorem HoldSet.empty_has (r : HoldReason) : HoldSet.empty.has r = false := by cases r <;> rfl

/-- A fault of a lane in HOMING or RUNNING holds it. -/
theorem State.laneFault_eq {s : State} {i : LaneId} {r : HoldReason} (hs : (s.lane i).state = .homing ∨ (s.lane i).state = .running)
    (h : (s.lane i).holds.has r = false) (hr : r ≠ .cancelled) :
    s.laneFault i r = ((s.modLane i (Lane.heldBy r)).join (.lane i)).settleIfClosing i := by
  unfold State.laneFault
  rcases hs with hs | hs <;> simp [hs, State.enterHeld, hr, State.holdLane_eq h]

/-! ### Requests (R164) -/

/-- A request the part state takes, with the dispatcher free, is decided by its block and its reply takes the slot. -/
theorem State.request_free {r : Request} {s : State} (hf : s.free) (hl : Request.lengthGood r = true)
    (ht : s.part.state.takes r = true) :
    s.request r = ((decideRequest r s.heard).1).fillSlot (replyTo (kindOf r) (decideRequest r s.heard).2) := by
  have ht' : s.heard.part.state.takes r = true := ht
  have : s.request r = s.heard.takeRequest r := by
    unfold State.request; split
    · rfl
    · rename_i h; exact absurd hf.2 (by have := h hf.1; exact this)
  rw [this]; simp only [State.takeRequest, hl, if_true, State.dispatchRequest, ht']

/-- What a received request's frame leaves of each field. -/
@[simp] theorem State.heard_tick : s.heard.tick = s.tick := rfl
@[simp] theorem State.heard_lanes : s.heard.lanes = s.lanes := rfl
@[simp] theorem State.heard_bays : s.heard.bays = s.bays := rfl
@[simp] theorem State.heard_types : s.heard.types = s.types := rfl
@[simp] theorem State.heard_settings : s.heard.settings = s.settings := rfl
@[simp] theorem State.heard_accounts : s.heard.accounts = s.accounts := rfl
@[simp] theorem State.heard_settlements : s.heard.settlements = s.settlements := rfl
@[simp] theorem State.heard_queue : s.heard.queue = s.queue := rfl
@[simp] theorem State.heard_part : s.heard.part = s.part := rfl
@[simp] theorem State.heard_pending : s.heard.pending = s.pending := rfl
@[simp] theorem State.heard_lane (i : LaneId) : s.heard.lane i = s.lane i := rfl
@[simp] theorem State.heard_bay (b : BayId) : s.heard.bay b = s.bay b := rfl
@[simp] theorem State.heard_account (a : Nat) : s.heard.account a = s.account a := rfl
@[simp] theorem State.heard_laneSettings (i : LaneId) : s.heard.laneSettings i = s.laneSettings i := rfl
@[simp] theorem State.heard_type (t : Nat) : s.heard.type t = s.type t := rfl
@[simp] theorem State.heard_dockets : s.heard.dockets = s.dockets := rfl
@[simp] theorem State.heard_docketNumber : s.heard.docketNumber = s.docketNumber := rfl
@[simp] theorem State.heard_orderNumber : s.heard.orderNumber = s.orderNumber := rfl
@[simp] theorem State.heard_order (n : Nat) : s.heard.order n = s.order n := rfl

/-- Outside STARTING the part state takes every request but DOCKET_OPEN, PAY_CREDIT, DAY_CLOSE and DAY_OPEN (R170). -/
theorem PartState.takes_of {p : PartState} (h : p ≠ .starting) {r : Request} (h1 : ∀ l a m, r ≠ .docketOpen l a m)
    (h2 : ∀ l a m, r ≠ .payCredit l a m) (h3 : r ≠ .dayClose) (h4 : ∀ d, r ≠ .dayOpen d) : p.takes r = true := by
  cases p
  · exact absurd rfl h
  · cases r <;> simp_all [PartState.takes]
  · cases r <;> simp_all [PartState.takes]

/-- A lane named by its own index. -/
@[simp] theorem laneOf_val (i : LaneId) : laneOf i.val = some i := by simp [laneOf]

theorem laneOf_none {n : Nat} (h : 4 ≤ n) : laneOf n = none := by simp [laneOf, h]

/-- A bay named by its own index. -/
@[simp] theorem bayOf_val (b : BayId) : bayOf b.val = some b := by
  rw [bayOf, dif_pos b.isLt]

theorem bayOf_none {n : Nat} (h : 2 ≤ n) : bayOf n = none := by
  rw [bayOf, dif_neg (Nat.not_lt.2 h)]

/-- The type entry of an index within the table. -/
theorem State.type_eq (t : Nat) (h : t < 24) : s.type t = s.types[t] := by simp [State.type, h]

/-- No docket exists exactly when every lane's slot is empty. -/
theorem State.dockets_eq_nil {s : State} : s.dockets = [] ↔ ∀ i, (s.lane i).docket = none := by
  simp only [State.dockets, List.filterMap_eq_nil_iff, Vector.mem_toList_iff]
  constructor
  · intro h i; exact h _ (Vector.getElem_mem _)
  · intro h l hl
    obtain ⟨i, hi, rfl⟩ := Vector.mem_iff_getElem.1 hl
    exact h ⟨i, hi⟩

/-- A docket exists exactly when it stands in a lane's slot. -/
theorem State.mem_dockets {s : State} {d : Docket} : d ∈ s.dockets ↔ ∃ i, (s.lane i).docket = some d := by
  simp only [State.dockets, List.mem_filterMap, Vector.mem_toList_iff]
  constructor
  · rintro ⟨l, hl, h⟩
    obtain ⟨i, hi, rfl⟩ := Vector.mem_iff_getElem.1 hl
    exact ⟨⟨i, hi⟩, h⟩
  · rintro ⟨i, h⟩
    exact ⟨_, Vector.getElem_mem i.isLt, h⟩

/-! ### Timers and the pressure -/

/-- A timer is due exactly when it runs and its tick has come. -/
theorem State.due_iff {x : Option Tick} : s.due x = true ↔ ∃ d, x = some d ∧ s.reached d = true := by
  cases x <;> simp [State.due]

/-- A tick that has come is not moved to. -/
theorem State.reach_of_reached {due : Tick} (h : s.reached due = true) : s.reach due = s := by simp [State.reach, h]

@[simp] theorem State.evaluatePressure_lanes : s.evaluatePressure.lanes = s.lanes := by
  unfold State.evaluatePressure; simp only; split <;> rfl
@[simp] theorem State.evaluatePressure_bays : s.evaluatePressure.bays = s.bays := by
  unfold State.evaluatePressure; simp only; split <;> rfl
@[simp] theorem State.evaluatePressure_tick : s.evaluatePressure.tick = s.tick := by
  unfold State.evaluatePressure; simp only; split <;> rfl
@[simp] theorem State.evaluatePressure_settings : s.evaluatePressure.settings = s.settings := by
  unfold State.evaluatePressure; simp only; split <;> rfl

/-! ### The arbiter touches the queue, the bays and the voucher sequence alone -/

theorem State.requestUnit_frame (b : BayId) (s : State) :
    (s.requestUnit b).lanes = s.lanes ∧ (s.requestUnit b).tick = s.tick := by
  simp only [State.requestUnit]
  split
  · exact ⟨rfl, rfl⟩
  · split
    · exact ⟨rfl, rfl⟩
    · split <;> exact ⟨rfl, rfl⟩

theorem State.offer_frame (b : BayId) (s : State) : (s.offer b).lanes = s.lanes ∧ (s.offer b).tick = s.tick := by
  simp only [State.offer]
  split
  · split
    · split
      · simp only [State.handCash, (State.requestUnit_frame _ _).1, (State.requestUnit_frame _ _).2]
        exact ⟨rfl, rfl⟩
      · exact ⟨rfl, rfl⟩
    · split
      · simp only [State.handPrint]
        split <;> exact ⟨rfl, rfl⟩
      · exact ⟨rfl, rfl⟩
    · exact ⟨rfl, rfl⟩
  · exact ⟨rfl, rfl⟩

@[simp] theorem State.arbitrate_lanes : s.arbitrate.lanes = s.lanes := by
  rw [State.arbitrate, (State.offer_frame 1 _).1, (State.offer_frame 0 s).1]
@[simp] theorem State.arbitrate_tick : s.arbitrate.tick = s.tick := by
  rw [State.arbitrate, (State.offer_frame 1 _).2, (State.offer_frame 0 s).2]

/-! ### The end of an order -/

@[simp] theorem State.completeOrder_bays (o : PayOrder) : (s.completeOrder o).bays = s.bays := State.evaluatePressure_bays _
@[simp] theorem State.completeOrder_tick (o : PayOrder) : (s.completeOrder o).tick = s.tick := State.evaluatePressure_tick _
@[simp] theorem State.completeOrder_bay (o : PayOrder) (b : BayId) : (s.completeOrder o).bay b = s.bay b := by
  simp only [State.bay, State.completeOrder_bays]

/-- What a bay in SERVING or STOPPING serves: the pending order with the number it holds. -/
theorem State.served_eq {s : State} {b : BayId} {o : PayOrder} {xs ys : List PayOrder}
    (hs : (s.bay b).state = .serving ∨ (s.bay b).state = .stopping) (hn : (s.bay b).service.order = some o.number)
    (ho : s.queue.orders = xs ++ o :: ys) (hx : ∀ x ∈ xs, x.number ≠ o.number) : s.served b = some o := by
  have : s.order o.number = some o := by
    simp only [State.order, ho]
    exact find?_at (fun q hq => by simpa using hx q hq) (by simp)
  unfold State.served
  rcases hs with h | h <;> rw [h] <;> simp [hn, this]

/-- An order that becomes DONE leaves the pending list for the history ring, with its commitment and ORDER_DONE (R136). -/
theorem State.completeOrder_eq {s : State} {o o' : PayOrder} {xs ys : List PayOrder} (ho : s.queue.orders = xs ++ o' :: ys)
    (hn : o'.number = o.number) (hx : ∀ x ∈ xs, x.number ≠ o.number) :
    s.completeOrder o = State.raiseQueue (fun f => { f with orderDone := true })
      (State.dropCommitment { s with queue := { s.queue with
        orders := xs ++ ys
        history := (s.queue.history ++ [{ o with paid := o.amount, state := .done, bay := none }]).drop
          (s.queue.history.length + 1 - 8) } }) := by
  have : s.queue.orders.eraseP (fun x => decide (x.number = o.number)) = xs ++ ys := by
    rw [ho]
    exact eraseP_at (fun q hq => by simpa using hx q hq) (by simpa using hn)
  unfold State.completeOrder State.retireOrder
  rw [this]
  simp only [pushCapped, List.length_append, List.length_cons, List.length_nil, Config.historyMax]

/-- A bay that is not draining finishes its order: READY, ORDER_DONE, and the arbiter acts (R136, R150). -/
theorem State.finishOrder_serving {s : State} {b : BayId} {o : PayOrder} (h : (s.bay b).state ≠ .stopping) :
    s.finishOrder b o = State.arbitrate ((State.join (.bay b) (s.completeOrder o)).modBay b fun y => { y with
      state := .ready
      flags := { y.flags with orderDone := true }
      service := { y.service with
        order := none, unitTimer := none, nextUnit := none, print := none, printFrame := [], printTimer := none } }) := by
  have e : ((s.completeOrder o).raiseBay b fun f => { f with orderDone := true }).bay b
      = { s.bay b with flags := { (s.bay b).flags with orderDone := true } } := by
    unfold State.raiseBay; simp
  unfold State.finishOrder State.serviceDone
  simp only
  rw [e, if_neg (by simpa using h)]
  simp only [State.raiseBay, State.modBay_join, State.modBay_modBay]
  congr 2

/-- A draining bay that finishes its order powers down: OFF, or POWERING with its enable on again (R136, R155). -/
theorem State.finishOrder_stopping {s : State} {b : BayId} {o : PayOrder} (h : (s.bay b).state = .stopping) :
    s.finishOrder b o = (State.join (.bay b) (s.completeOrder o)).modBay b fun y =>
      { Bay.unpowered (if (s.bay b).enable = true then .powering else .off) y with
        powerTimer := if (s.bay b).enable = true then some (s.tick + 800) else none
        flags := { y.flags with orderDone := true } } := by
  have e : ((s.completeOrder o).raiseBay b fun f => { f with orderDone := true }).bay b
      = { s.bay b with flags := { (s.bay b).flags with orderDone := true } } := by
    unfold State.raiseBay; simp
  unfold State.finishOrder State.serviceDone
  simp only
  rw [e, if_pos (by simpa using h)]
  unfold State.endDrain
  simp only
  cases he : (s.bay b).enable <;>
    simp [State.raiseBay, State.modBay_join, State.modBay_modBay, State.interrupt, he, State.enterPowering, State.after] <;>
  · apply congrArg
    apply State.modBay_congr
    simp [Bay.powerDown, Bay.unpowered, Service.idle, FrameReceiver.abandon, Config.poweringTicks]

/-! ### The port after a reset (R160, R171) -/

@[simp] theorem Port.strapped_rate (p : Port) : p.strapped.rate = rateOf p.strapped.rate1 p.strapped.rate0 := rfl
@[simp] theorem Port.strapped_resets (p : Port) : p.strapped.resets = p.resets + 1 := rfl
@[simp] theorem Port.strapped_sending (p : Port) : p.strapped.sending = .idle := rfl
@[simp] theorem Port.strapped_slot (p : Port) : p.strapped.slot = none := rfl
@[simp] theorem Port.strapped_attention (p : Port) : p.strapped.attention = [] := rfl

/-! ### DIV_HOME (R41, log entry 45) -/

@[simp] theorem Diverter.home_passHome (levels : Nat → Bool) (v : Diverter) :
    (v.passHome levels).home = ⟨levels v.homeReads, levels v.homeReads, v.home.s0, v.home.s1,
      majority (levels v.homeReads) v.home.s0 v.home.s1⟩ := rfl
@[simp] theorem Diverter.homeReads_passHome (levels : Nat → Bool) (v : Diverter) :
    (v.passHome levels).homeReads = v.homeReads + 1 := rfl

/-- All that ticks of the filter change of the diverter is the line and its count. -/
theorem Diverter.passHome_iterate (levels : Nat → Bool) (n : Nat) (v : Diverter) :
    ∃ home, (Diverter.passHome levels)^[n] v = { v with home := home, homeReads := v.homeReads + n } := by
  induction n generalizing v with
  | zero => exact ⟨_, rfl⟩
  | succ n ih =>
    obtain ⟨home, h⟩ := ih (v.passHome levels)
    exact ⟨home, by rw [Function.iterate_succ_apply, h]; simp [Diverter.passHome, Diverter.showHome, Nat.add_comm, Nat.add_left_comm]⟩

/-- A filter that has run up to tick `t` stands as it is. -/
theorem State.settleHome_current {s : State} {i : LaneId} {t : Tick} (h : (s.lane i).diverter.homeTick = t) :
    s.settleHome i t = s := by
  subst h
  unfold State.settleHome State.modDiverter
  exact modLane_eq_self (by simp [Tick.since])

/-- What the filter's run up to tick `t` can do to the state: only the line, its count and its tick in the diverter change. -/
theorem State.settleHome_cases (i : LaneId) (t : Tick) :
    ∃ home n, s.settleHome i t = s.modDiverter i fun v => { v with home := home, homeReads := n, homeTick := t } := by
  obtain ⟨home, h⟩ := Diverter.passHome_iterate (Config.divHome i s.port.resets)
    (min 3 (Tick.since t (s.lane i).diverter.homeTick)) (s.lane i).diverter
  refine ⟨home, (s.lane i).diverter.homeReads + min 3 (Tick.since t (s.lane i).diverter.homeTick), ?_⟩
  unfold State.settleHome State.modDiverter
  exact modLane_congr (by simp only [h])

@[simp] theorem State.tick_settleHome (i : LaneId) (t : Tick) : (s.settleHome i t).tick = s.tick := rfl
@[simp] theorem State.settings_settleHome (i : LaneId) (t : Tick) : (s.settleHome i t).settings = s.settings := rfl
@[simp] theorem State.port_settleHome (i : LaneId) (t : Tick) : (s.settleHome i t).port = s.port := rfl
@[simp] theorem State.homeTick_settleHome (i : LaneId) (t : Tick) :
    ((s.settleHome i t).lane i).diverter.homeTick = t := by
  rw [State.settleHome, State.lane_modDiverter_self]

@[simp] theorem State.tick_showHome (i : LaneId) : (s.showHome i).tick = s.tick := rfl
@[simp] theorem State.settings_showHome (i : LaneId) : (s.showHome i).settings = s.settings := rfl
@[simp] theorem State.port_showHome (i : LaneId) : (s.showHome i).port = s.port := rfl
@[simp] theorem State.homeTick_showHome (i : LaneId) : ((s.showHome i).lane i).diverter.homeTick = s.tick := by
  rw [State.showHome, State.lane_modDiverter_self]

@[simp] theorem Line.level_told (b : Bool) (l : Line) : (l.told b).level = b := by
  unfold Line.told
  split
  · assumption
  · rfl

theorem Line.told_self {b : Bool} {l : Line} (h : l.level = b) : l.told b = l := if_pos h

@[simp] theorem State.level_tellHome (i : LaneId) (home : Bool) :
    ((s.tellHome i home).lane i).diverter.home.level = home := by
  rw [State.tellHome, State.lane_modDiverter_self, Line.level_told]

/-- Telling the level that the filter has accepted on the present tick changes nothing. -/
theorem State.tellHome_accepted {s : State} {i : LaneId} {home : Bool} (ht : (s.lane i).diverter.homeTick = s.tick)
    (h : (s.lane i).diverter.home.level = home) : s.tellHome i home = s := by
  rw [State.tellHome, State.settleHome_current ht]
  exact modLane_eq_self (by simp only [Line.told_self h])

end Sys2Proof.Machine
end

