-- ==== Sys2Proof/Tests/Slice0.lean ====
section
/-! SUPPORT. Small tests, each on one operation or one step: ill-formed commands are refused, the manual's worked examples come
out as the manual gives them, and every statement with hypotheses has a state and operands that meet them. Expected values are
the manual's own; the comment before a test names its source. -/

namespace Sys2Proof.Tests

open Sys2Proof.Machine

/-! ### Ill-formed commands -/

def entry : TypeEntryData := ⟨3, true, false, 7, 1203, 310, 335, 20, 150, 8, 500, 250⟩
def record : AccountData := ⟨17, 1, true, false, 50412, 20000, 5250, 1500, [(3, 14), (9, 6)]⟩

theorem test_well_formed_terms_pass :
    entry.wellFormed = true ∧ record.wellFormed = true ∧ (Instr.gateArrival 0 65535).wellFormed = true
      ∧ (Instr.configWrite (List.replicate 62 ⟨255, 255, 65535⟩)).wellFormed = true := by decide

theorem test_ill_formed_type_entries_are_refused :
    [{ entry with index := 256 }, { entry with owner := 256 }, { entry with tag := 65536 }, { entry with lengthMin := 65536 },
      { entry with lengthMax := 65536 }, { entry with slots := 256 }, { entry with deposit := 65536 },
      { entry with bottleDeposit := 65536 }, { entry with damagedPermille := 65536 },
      { entry with surplusPermille := 65536 }].all (fun e => !(Instr.typeWrite e).wellFormed) = true := by decide

theorem test_ill_formed_account_records_are_refused :
    [{ record with index := 256 }, { record with state := 256 }, { record with number := 4294967296 },
      { record with dayCap := 4294967296 }, { record with paidToday := 4294967296 }, { record with credit := 4294967296 },
      { record with pairs := List.replicate 77 (3, 1) }, { record with pairs := [(256, 1)] },
      { record with pairs := [(3, 65536)] }].all (fun r => !(Instr.acctWrite r).wellFormed) = true := by decide

theorem test_ill_formed_requests_are_refused :
    [Instr.dayOpen 65536, .configWrite [], .configWrite (List.replicate 63 ⟨1, 0, 0⟩), .configWrite [⟨256, 0, 0⟩],
      .configWrite [⟨1, 256, 0⟩], .configWrite [⟨1, 0, 65536⟩], .typeRead 256, .acctRead 256, .acctRange 256 0, .acctRange 0 256,
      .issue 256 0 1, .issue 0 256 1, .issue 0 0 65536, .docketOpen 256 0 0, .docketOpen 0 256 0, .docketOpen 0 0 256,
      .docketClose 256, .docketCancel 256, .docketRead 256, .docketAdjust 256 0 0 0 1, .docketAdjust 0 256 0 0 1,
      .docketAdjust 0 0 256 0 1, .docketAdjust 0 0 0 256 1, .docketAdjust 0 0 0 0 32768, .docketAdjust 0 0 0 0 (-32769),
      .laneHold 256, .laneRelease 256, .laneTrim 256 0, .laneTrim 0 128, .laneTrim 0 (-129), .laneRead 256, .settleRead 65536 0,
      .settleRead 1 256, .orderList 256 0, .orderList 0 256, .orderCancel 65536, .payCredit 256 0 1, .payCredit 0 256 1,
      .payCredit 0 0 4294967296, .bayPower 256 0, .bayPower 0 256, .bayRead 256, .gateArrival 0 65536,
      .gateClear 0 65536].all (fun i => !i.wellFormed) = true := by decide

/-! ### Helpers: small states -/

/-- The part after its store read, CLOSED. -/
def closed : State := { State.reset with part := { State.reset.part with state := .closed } }

/-- The part on an open day, with one account in slot 17 (chapter 7, section 7.10) and the five types of section 2.6. -/
def types26 : Vector TypeEntry 24 :=
  ((((State.reset.types.set 3 ⟨true, false, 7, 1203, 310, 335, 20, 150, 8, 500, 250⟩).set 4
    ⟨true, false, 7, 0, 360, 390, 24, 150, 8, 500, 250⟩).set 9 ⟨true, true, 7, 5010, 270, 295, 0, 3000, 0, 600, 0⟩).set 10
    ⟨true, true, 12, 88, 400, 440, 0, 3000, 0, 600, 0⟩).set 15 ⟨true, false, 7, 0, 250, 275, 12, 100, 8, 500, 250⟩

def account17 : Account := ⟨false, 50412, true, true, 20000, 5250, 1500, ((Vector.replicate 24 0).set 3 14).set 9 6⟩

def opened : State :=
  { State.reset with
    types := types26
    accounts := State.reset.accounts.set 17 (some account17)
    part := { State.reset.part with state := .opened, day := 214, nextDocket := 326 } }

/-- A docket of account 17 with method CASH. -/
def docket : Docket :=
  { number := 331, account := 17, method := .cash, state := .opened, openedDay := 214, closeCause := none, runs := [], plan := []
    reserved := 0, accepted := 0, refused := 0, misrouted := 0, voided := 0, nextEntry := 0 }

/-- A passage record before B_on. -/
def entering : Passage :=
  { seq := 41, tAOn := 10000, tAOff := none, tBOn := none, tBOff := none, length := none, speed := none, tag := none, necks := 0
    damaged := false, unsteady := none, disposition := none, gateArrival := none, gateClear := none, committed := false
    entry := none }

/-- A record under beam B, its A_off taken. -/
def atB : Passage := { entering with tAOff := some 12560, tBOn := some 13200, gateArrival := some 19600 }

/-- A record of the travel queue. -/
def travelling (d : Disposition) : Passage :=
  { atB with tBOff := some 15800, length := some 322, speed := some 500, disposition := some d, gateClear := some 22160 }

def accepted3 : Disposition := .accept 3 .good 19
def foreign : Disposition := .refuse .foreign

/-- Lane 0 in a state, with the docket, changed by `f`. -/
def lane0 (st : LaneState) (f : Lane → Lane) : State :=
  opened.modLane 0 fun l => f { l with state := st, docket := some docket }

/-- Bay 0 in a state with a kind, changed by `f`. -/
def bay0 (st : BayState) (k : BayKind) (f : Bay → Bay) : State :=
  opened.modBay 0 fun y => f { y with state := st, kind := some k }

/-- A WAITING cash order. -/
def order : PayOrder := ⟨5, 17, some 331, .cash, 1500, 0, .waiting, none, none, 0⟩

/-- The character whose samples are all as its bits say: start bit low, data least significant first, stop bit high. -/
def char (n : Nat) : Cells :=
  BitVec.ofNat 30 (((List.range 8).map fun k => if n.testBit k then 7 * 8 ^ (k + 1) else 0).sum + 7 * 8 ^ 9)

theorem test_a_good_character_is_read : readCharacter (char 0xA7) = .byte 0xA7 ∧ readCharacter (char 0) = .byte 0
    ∧ readCharacter (char 255) = .byte 255 ∧ readCharacter 0 = .framingError := by decide

/-! ### The manual's worked examples -/

/-- Chapter 10, section 10.2: a STATE request has LEN 1, BODY 0x02 and CHECK 0xFD. -/
theorem test_state_request_frame : frameOf [0x02] = [0xA7, 0x01, 0x02, 0xFD] := by decide

/-- Chapter 1, section 1.7: record 41 on a lane with D_AB 400, D_BG 800 and trim +2; B_on at 13,200 arms its gate arrival at
19,600, and B_off at 15,800 gives length 322 and speed 500. -/
theorem test_record_41_is_measured :
    ((match exec (.bOn 0 13200) (lane0 .running fun l => { l with span := [{ entering with tAOff := some 12560 }] }) with
      | .next t => (t.lane 0).span.map Passage.gateArrival
      | _ => []) = [some 19600])
    ∧ ((match exec (.bOff 0 15800) { (lane0 .running fun l => { l with span := [atB], beamB := Line.steady true }) with
          settings := { Settings.default with lanes := Settings.default.lanes.set 0 { LaneSettings.default with trim := 2 } } }
        with
      | .next t => (t.lane 0).travel.map fun p => (p.length, p.speed, p.disposition)
      | _ => []) = [(some 322, some 500, some (.refuse .untagged))]) := by decide

/-- Chapter 2, section 2.6: records 41 to 50 of lane 2. -/
theorem test_records_of_section_2_6 :
    let classify (tag : Option Tag) (len necks : Nat) (damaged : Bool) :=
      classifyKey types26 (some docket) { travelling accepted3 with
        tag := tag, length := some len, necks := necks, damaged := damaged, disposition := none }
    let key (t n : Nat) (c : Condition) : Except RefuseReason RunKey := .ok ⟨t, c, n, .auto⟩
    (classify (some ⟨7, 1203⟩) 322 19 false).toOption = (key 3 19 .good).toOption
    ∧ (classify (some ⟨7, 5010⟩) 282 1 true).toOption = (key 9 0 .damaged).toOption
    ∧ (classify (some ⟨7, 1203⟩) 323 23 false).toOption = (key 3 20 .good).toOption
    ∧ (classify none 372 17 false).toOption = (key 4 17 .good).toOption
    ∧ (classify (some ⟨12, 88⟩) 418 1 true).toOption = (key 10 0 .damaged).toOption := by decide

def refusal (r : Except RefuseReason RunKey) : Option RefuseReason :=
  match r with
  | .error e => some e
  | .ok _ => none

/-- Chapter 2, section 2.6: the records refused. -/
theorem test_refusals_of_section_2_6 :
    let classify (tag : Option Tag) (len : Nat) (u : Option UnsteadyReason) :=
      refusal (classifyKey types26 (some docket) { travelling accepted3 with
        tag := tag, length := some len, necks := 20, unsteady := u, disposition := none })
    classify (some ⟨7, 1203⟩) 352 none = some .lengthMismatch ∧ classify (some ⟨7, 1299⟩) 330 none = some .unknownType
    ∧ classify (some ⟨31, 1203⟩) 321 none = some .foreign ∧ classify none 410 none = some .untagged
    ∧ classify (some ⟨7, 1203⟩) 324 (some .unsteady) = some .unsteady := by decide

/-- Chapter 5, section 5.10, step 14: removing four of type 3, GOOD, 20 bottles takes runs 4 and 3 and one of run 2. -/
theorem test_removal_of_section_5_10 :
    let run (t b n : Nat) (s : RunSource) : Run := ⟨⟨t, if t = 9 then .damaged else .good, b, s⟩, n⟩
    let d : Docket := { docket with accepted := 8, runs := [run 3 19 1 .auto, run 9 0 1 .auto, run 3 20 3 .auto,
      run 3 20 2 .manual, run 3 20 1 .auto] }
    (d.remove (Run.isOf 3 .good 20) 4).runs = [run 3 19 1 .auto, run 9 0 1 .auto, run 3 20 2 .auto]
      ∧ (d.remove (Run.isOf 3 .good 20) 4).accepted = 4 := by decide

/-- Chapter 7, section 7.10: docket 331 for slot 17. -/
theorem test_settlement_of_section_7_10 :
    let run (t b n : Nat) (c : Condition) (s : RunSource) : Run := ⟨⟨t, c, b, s⟩, n⟩
    let c := computeSettlement types26 500 account17 .cash [run 3 20 12 .good .auto, run 3 17 3 .good .auto,
      run 3 20 2 .damaged .auto, run 9 0 5 .good .auto, run 9 0 1 .damaged .manual]
    c.lines = [⟨3, 15, 2, 331, 14, 3, 4822⟩, ⟨9, 5, 1, 0, 6, 0, 16800⟩] ∧ c.credit = 21622 ∧ c.payout = 14500
      ∧ c.posted = 7122 ∧ c.flags = ⟨false, false, false, true, true, false⟩ := by decide

/-- Chapter 8, section 8.10: HIGH_MARK 12, LOW_MARK 8. -/
theorem test_pressure_of_section_8_10 :
    Pressure.next 12 8 12 .normal = .high ∧ Pressure.next 12 8 11 .high = .high ∧ Pressure.next 12 8 8 .high = .normal
      ∧ Pressure.next 12 8 9 .normal = .normal := by decide


/-! ### Witnesses: for each statement, states and operands that meet the hypotheses of each of its clauses -/

def port (f : Port → Port) (s : State) : State := { s with port := f s.port }
def part (f : PartUnit → PartUnit) (s : State) : State := { s with part := f s.part }
def queue (f : PayQueue → PayQueue) (s : State) : State := { s with queue := f s.queue }

/-- `opened` with a reply in the slot, being sent. -/
def busy : State := port (fun p => { p with slot := some ⟨0x82, 0, []⟩, sending := .reply [0xA7] }) opened

/-- `busy` with a frame waiting. -/
def full : State := port (fun p => { p with waiting := some ⟨[2], true⟩ }) busy

/-- `opened` with its receiver as given, its last stop bit at tick 0. -/
def receiving (buffer : Option (List Byte)) (s : State) : State := port (fun p => { p with rx := ⟨buffer, 0, false⟩ }) s

/-- `opened` with an idle port whose attention set holds `x` alone. -/
def attending (x : Source) : State := port (fun p => { p with attention := [x] }) opened

theorem opened_free : opened.free := ⟨rfl, rfl⟩
theorem closed_free : closed.free := ⟨rfl, rfl⟩

theorem witness_StepRunsFrontCommand :
    ({ State.reset with pending := [.ident, .resetN] } : State).pending = .ident :: [.resetN] := rfl

theorem witness_RequestFrameRoundTrip :
    [Request.configWrite (List.replicate 62 ⟨255, 255, 65535⟩), .typeWrite entry, .acctWrite record, .dayOpen 65535,
      .docketAdjust 255 255 255 255 (-32768), .laneTrim 255 127, .payCredit 255 255 4294967295].all Request.wellFormed = true :=
  by decide

theorem witness_FrameSumsToZero :
    1 ≤ [(2 : Byte)].length ∧ 1 ≤ (List.replicate 250 (0 : Byte)).length ∧ (List.replicate 250 (0 : Byte)).length ≤ 250 := by
  rw [List.length_replicate]; decide

theorem witness_DispatchChecksInOrder :
    ((⟨[0x02], false⟩ : Frame).sumGood = false
      ∧ ((⟨[0x3F], true⟩ : Frame).sumGood = true ∧ parseRequest ([0x3F].headD 0) [0x3F].tail = .unknownKind)
      ∧ ((⟨[0x02, 0], true⟩ : Frame).sumGood = true ∧ parseRequest ([0x02, 0].headD 0) [0x02, 0].tail = .badLength)
      ∧ ((⟨[0x02], true⟩ : Frame).sumGood = true ∧ parseRequest ([0x02].headD 0) [0x02].tail = .request .state
        ∧ Instr.request? .state = some .state ∧ State.reset.part.state.takes .state = true)
      ∧ (⟨[0x04], true⟩ : Frame).sumGood = true ∧ parseRequest ([0x04].headD 0) [0x04].tail = .request .dayClose
        ∧ Instr.request? .dayClose = some .dayClose ∧ State.reset.part.state.takes .dayClose = false)
    ∧ (State.reset.part.state = .starting ∧ State.reset.free ∧ Instr.request? (.orderCancel 65535) = some (.orderCancel 65535)
      ∧ (Request.orderCancel 65535).wellFormed = true)
    ∧ (closed.part.state = .closed ∧ closed.free ∧ (Request.docketOpen 3 63 2).wellFormed = true
      ∧ (Request.payCredit 63 1 99999999).wellFormed = true ∧ Request.dayClose.wellFormed = true)
    ∧ opened.part.state = .opened ∧ opened.free ∧ (Request.dayOpen 65535).wellFormed = true :=
  ⟨by decide, ⟨rfl, ⟨rfl, rfl⟩, by decide⟩, ⟨rfl, ⟨rfl, rfl⟩, by decide⟩, rfl, ⟨rfl, rfl⟩, by decide⟩

theorem witness_TransmitterChooses :
    busy.port.sending ≠ .idle
    ∧ ((port (fun p => { p with sending := .idle }) busy).port.sending = .idle
      ∧ (port (fun p => { p with sending := .idle }) busy).port.slot = some ⟨0x82, 0, []⟩)
    ∧ (opened.port.sending = .idle ∧ opened.port.slot = none ∧ opened.port.attention = [])
    ∧ ∀ x ∈ [Source.lane 3, .bay 1, .queue, .part],
        (attending x).port.sending = .idle ∧ (attending x).port.slot = none ∧ (attending x).port.attention = x :: []
        ∧ x ∉ ([] : List Source) := by decide

theorem witness_FrameSentContinues :
    (port (fun p => { p with sending := .notice [0xA7] }) opened).port.sending = .notice [0xA7]
    ∧ (busy.port.sending = .reply [0xA7] ∧ busy.port.resetPending = false ∧ busy.port.waiting = none ∧ busy.port.attention = []
      ∧ (port (fun p => { p with attention := [.part] }) busy).port.attention = .part :: [])
    ∧ (full.port.sending = .reply [0xA7] ∧ full.port.resetPending = false ∧ full.port.waiting = some ⟨[2], true⟩
      ∧ (State.dispatchFrame ⟨[2], true⟩ (port (fun p => { p with
          sending := .idle, slot := none, waiting := none, attention := [.part] }) full)).port.attention = .part :: []
      ∧ (State.dispatchFrame ⟨[2], true⟩ (port (fun p => { p with
          sending := .idle, slot := none, waiting := none }) full)).port.attention = [])
    ∧ (port (fun p => { p with resetPending := true }) busy).port.resetPending = true
    ∧ opened.port.sending = .idle := by decide

theorem witness_ReceiverAssembles :
    readCharacter 0 = .framingError
    ∧ (readCharacter (char 0xA7) = .byte 0xA7 ∧ opened.port.rx.buffer = none)
    ∧ (readCharacter (char 250) = .byte 250 ∧ (receiving (some []) opened).port.rx.buffer = some []
      ∧ Tick.since 80 (receiving (some []) opened).port.rx.lastStop ≤ 80)
    ∧ ((receiving (some [2, 2]) opened).port.rx.buffer = some (2 :: [2]) ∧ [(2 : Byte)].length < (2 : Byte).toNat)
    ∧ 80 < Tick.since 81 (receiving (some [2, 2]) opened).port.rx.lastStop
    ∧ (readCharacter 0x3F = .dropped ∧ (receiving (some [1, 2]) opened).port.rx.buffer = some (1 :: [2])
      ∧ [(2 : Byte)].length = (1 : Byte).toNat)
    ∧ ∀ len body, (receiving (some [2, 2]) opened).port.rx.buffer = some (len :: body) → body.length ≠ len.toNat :=
  ⟨by decide, by decide, by decide, by decide, by decide, by decide, fun _ _ h => by cases h; decide⟩

theorem witness_CompletedFramesWaitOrAreDispatched :
    (Instr.request? .ident = some .ident ∧ busy.port.slot ≠ none ∧ busy.port.waiting = none
      ∧ full.port.slot ≠ none ∧ full.port.waiting ≠ none)
    ∧ let f (s : State) := receiving (some [1, 2]) s
      (readCharacter (char 0xFD) = .byte 0xFD ∧ (f opened).port.rx.buffer = some (1 :: [2])
        ∧ [(2 : Byte)].length = (1 : Byte).toNat ∧ Tick.since 80 (f opened).port.rx.lastStop ≤ 80)
      ∧ (f full).port.waiting ≠ none ∧ ((f busy).port.waiting = none ∧ (f busy).port.slot ≠ none)
      ∧ (f opened).port.waiting = none ∧ (f opened).port.slot = none := by decide

/-- An area that holds a valid image of generation `g`. -/
def area (g : Byte) : StoreArea := ⟨true, Config.formatRevision, g, types26, Settings.default⟩

theorem area_valid (g : Byte) : (area g).valid = true := by simp [area, StoreArea.valid, Config.readsRevision]

/-- A save in progress. -/
def saving : State := part (fun p => { p with save := some ⟨.second, area 1⟩ }) opened

/-- A seated cash module in bay 0. -/
def seated : State := bay0 .ready .cash fun y => { y with seat1 := ⟨true, true, 0⟩, seat2 := ⟨true, true, 0⟩ }

theorem witness_ResetTakesEveryBlock :
    State.reset.part.save = none ∧ saving.part.save = some ⟨.second, area 1⟩ ∧ AreaId.first ≠ .second
    ∧ ((seated.bay 0).seat1.pin = true ∧ (seated.bay 0).seat2.pin = true)
    ∧ (exec .storeReadDone State.reset matches .next _) = true :=
  ⟨rfl, rfl, by decide, by decide, by decide⟩

/-- Chapter 10, R160: the RATE pins choose the rate of the line at a reset. Chapter 9, R159: so do KIND1 and KIND2 the kind. -/
theorem test_reset_reads_the_pins :
    (rateOf true true).bitsPerSecond = 115200
    ∧ (match exec .resetN (seated.modBay 0 fun y => { y with kind1 := Line.steady true }) with
      | .next t => (t.bay 0).kind
      | _ => none) = some .voucher := by decide

/-- A part that is STARTING with the two areas given. -/
def starting (x y : StoreArea) : State := part (fun p => { p with area1 := x, area2 := y }) State.reset

theorem witness_StoreReadLoadsTheImage :
    ((starting (area 9) (area 7)).part.state = .starting ∧ (starting (area 9) (area 7)).part.area1.valid = true
      ∧ (starting (area 9) (area 7)).part.area2.valid = true)
    ∧ (State.reset.part.state = .starting ∧ State.reset.part.area1.valid = false ∧ State.reset.part.area2.valid = false)
    ∧ (starting (area 9) StoreArea.blank).part.area2.valid = false ∧ (starting StoreArea.blank (area 9)).part.area1.valid = false
    ∧ ((0 : Byte) = 255 + 1) ∧ ((7 : Byte) ≠ 9 + 1 ∧ (7 : Byte).toNat < (9 : Byte).toNat) :=
  ⟨⟨rfl, area_valid _, area_valid _⟩, ⟨rfl, rfl, rfl⟩, rfl, rfl, by decide, by decide⟩

theorem witness_SavingWritesTheOtherArea :
    (opened.free ∧ opened.part.state ≠ .starting ∧ opened.part.save = none)
    ∧ saving.free ∧ saving.part.state ≠ .starting ∧ saving.part.save = some ⟨.second, area 1⟩ ∧ saving.part.save ≠ none :=
  ⟨⟨opened_free, by decide, rfl⟩, ⟨rfl, rfl⟩, by decide, rfl, by simp [saving, part]⟩

/-- `opened` with one pending order. -/
def ordered : State := queue (fun q => { q with orders := [order], commitments := 1 }) opened

theorem witness_YardDayAndPartReset :
    (closed.free ∧ closed.part.state = .closed ∧ (65535 : Nat) ≠ 0)
    ∧ (opened.free ∧ opened.part.state = .opened ∧ (∀ i, (opened.lane i).docket = none) ∧ opened.queue.orders = []
      ∧ opened.part.save = none)
    ∧ ((lane0 .held id).free ∧ (lane0 .held id).part.state = .opened ∧ ∃ i, ((lane0 .held id).lane i).docket ≠ none)
    ∧ (ordered.free ∧ ordered.queue.orders ≠ [])
    ∧ saving.free ∧ (∀ i, (saving.lane i).docket = none) ∧ saving.queue.orders = [] ∧ saving.part.save ≠ none :=
  ⟨⟨closed_free, rfl, by decide⟩, ⟨opened_free, rfl, by decide, rfl, rfl⟩, ⟨⟨rfl, rfl⟩, rfl, 0, by decide⟩,
    ⟨⟨rfl, rfl⟩, by decide⟩, ⟨rfl, rfl⟩, by decide, rfl, by simp [saving, part]⟩

/-- A configuration at ends of its ranges. -/
def extreme : Settings :=
  ⟨Vector.replicate 4 ⟨false, 2000, 4000, -63, 64, 20, .half⟩, 600, 60, 60, 10000, 16, 15, Vector.replicate 2 false⟩

theorem witness_ConfigWritesWhatItReads :
    (closed.free ∧ closed.part.state ≠ .starting ∧ closed.part.save = none ∧ (∀ i, (closed.lane i).state = .off)
      ∧ (∀ i, (closed.lane i).docket = none) ∧ closed.queue.orders = [] ∧ closed.queue.commitments = 0
      ∧ closed.queue.pressure = .normal)
    ∧ (∀ i : LaneId, 100 ≤ extreme.lanes[i].dAB ∧ extreme.lanes[i].dAB ≤ 2000 ∧ 100 ≤ extreme.lanes[i].dBG
        ∧ extreme.lanes[i].dBG ≤ 4000 ∧ -63 ≤ extreme.lanes[i].trim ∧ extreme.lanes[i].trim ≤ 63
        ∧ 4 ≤ extreme.lanes[i].throwSteps ∧ extreme.lanes[i].throwSteps ≤ 64 ∧ 2 ≤ extreme.lanes[i].stepPeriod
        ∧ extreme.lanes[i].stepPeriod ≤ 20)
    ∧ 10 ≤ extreme.quietTime ∧ extreme.quietTime ≤ 600 ∧ extreme.autoClose ≤ 60 ∧ 2 ≤ extreme.jamTime ∧ extreme.jamTime ≤ 60
    ∧ 1 ≤ extreme.cashUnit ∧ extreme.cashUnit ≤ 10000 ∧ extreme.highMark ≤ 16 ∧ extreme.lowMark < extreme.highMark
    ∧ 2 ≤ extreme.highMark :=
  ⟨⟨closed_free, by decide, rfl, by decide, by decide, rfl, rfl, rfl⟩, by decide, by decide⟩

def twoMarks : List ConfigItem := [⟨0x14, 0, 5⟩, ⟨0x15, 0, 5⟩, ⟨0x07, 0, 2⟩]
def cashAndMode : List ConfigItem := [⟨0x14, 0, 12⟩, ⟨0x13, 0, 10000⟩, ⟨0x07, 0, 2⟩]

/-- The working settings after fields. -/
def written (xs : List Setting) : Settings := xs.foldl (fun g x => x.apply g) opened.settings

theorem witness_ConfigWriteChecksInOrder :
    ((opened.free ∧ opened.part.state ≠ .starting ∧ settingOf ⟨0x13, 0, 0⟩ = none)
      ∧ (settingOf ⟨0x14, 0, 2⟩ = some (.highMark 2) ∧ ((Setting.highMark 2).apply opened.settings).highMark
          ≤ ((Setting.highMark 2).apply opened.settings).lowMark)
      ∧ (settingOf ⟨0x13, 0, 10000⟩ = some (.cashUnit 10000) ∧ ∃ o ∈ ordered.queue.orders, o.method = .cash)
      ∧ (settingOf ⟨0x07, 0, 2⟩ = some (.mode 0 .half) ∧ (Setting.mode 0 .half).guardedLane = some 0
        ∧ ((lane0 .held id).lane 0).state ≠ .off ∧ (opened.lane 0).state = .off)
      ∧ (settingOf ⟨0x15, 0, 11⟩ = some (.lowMark 11) ∧ ((Setting.lowMark 11).apply opened.settings).lowMark
          < ((Setting.lowMark 11).apply opened.settings).highMark ∧ (Setting.lowMark 11).isMark = true)
      ∧ (saving.part.save ≠ none ∧ opened.part.save = none ∧ (Setting.cashUnit 10000).isMark = false))
    ∧ ([⟨0x14, 0, 12⟩, ⟨0x07, 0, 2⟩, ⟨0x14, 0, 9⟩] = [⟨0x14, 0, 12⟩, ⟨0x07, 0, 2⟩] ++ (⟨0x14, 0, 9⟩ : ConfigItem) :: []
      ∧ (settingOf ⟨0x14, 0, 12⟩ ≠ none ∧ settingOf ⟨0x07, 0, 2⟩ ≠ none) ∧ 62 ≤ 62)
    ∧ (twoMarks.map settingOf = [Setting.highMark 5, .lowMark 5, .mode 0 .half].map some
      ∧ (twoMarks.map fun c => (c.code, c.index)).Nodup ∧ (written [.highMark 5, .lowMark 5, .mode 0 .half]).highMark
        ≤ (written [.highMark 5, .lowMark 5, .mode 0 .half]).lowMark ∧ (Setting.mode 0 .half).isMark = false)
    ∧ (cashAndMode.map settingOf = [Setting.highMark 12, .cashUnit 10000, .mode 0 .half].map some
      ∧ (cashAndMode.map fun c => (c.code, c.index)).Nodup ∧ (written [.highMark 12, .cashUnit 10000, .mode 0 .half]).lowMark
        < (written [.highMark 12, .cashUnit 10000, .mode 0 .half]).highMark ∧ (Setting.highMark 12).guardedLane = none)
    ∧ (∀ x ∈ [Setting.highMark 12, .cashUnit 10000, .mode 0 .half], ∀ i, x.guardedLane = some i → (opened.lane i).state = .off)
    ∧ opened.queue.orders = [] ∧ opened.dockets = [] :=
  ⟨⟨⟨opened_free, by decide⟩, by decide, ⟨by decide, order, by decide⟩, by decide, by decide, by simp [saving, part], rfl, rfl⟩,
    by decide, by decide, by decide, by decide, rfl, by decide⟩

/-- Chapter 11, R181: a field named a second time is refused with its position, here 2, and a guarded one with its own, here 1. -/
theorem test_config_write_of_several_items :
    (match exec (.configWrite [⟨0x14, 0, 12⟩, ⟨0x07, 0, 2⟩, ⟨0x14, 0, 9⟩]) closed with
      | .next t => t.port.slot
      | _ => none) = some ⟨0x85, 4, [2]⟩
    ∧ (match exec (.configWrite [⟨0x14, 0, 12⟩, ⟨0x07, 0, 2⟩]) (lane0 .held id) with
      | .next t => t.port.slot
      | _ => none) = some ⟨0x85, 5, [1]⟩ := by decide

/-- Lane 0 RUNNING with a span list and a travel queue. -/
def running (span travel : List Passage) : State := lane0 .running fun l => { l with span := span, travel := travel }

/-- Lane 0 with both beams blocked. -/
def blocked (s : State) : State :=
  s.modLane 0 fun l => { l with beamA := Line.steady true, beamB := Line.steady true }

/-- Record 42, behind record 41. -/
def behind : Passage := { entering with seq := 42, tAOn := 13000 }

/-- A record that has left beam B but not the span list: no run makes one, and it is not under beam B. -/
def past : Passage := { atB with tBOff := some 15800 }

theorem witness_BeamAEdges :
    (((blocked opened).lane 0).beamA.level = true ∧ (opened.lane 0).beamA.level = false ∧ (opened.lane 0).state ≠ .running)
    ∧ (((running [atB] []).lane 0).beamA.level = false ∧ ((running [atB] []).lane 0).state = .running
      ∧ ((running [atB] []).lane 0).span.length < 2)
    ∧ (((blocked (running [atB, behind] [])).lane 0).beamA.level = true
      ∧ ((blocked (running [atB, behind] [])).lane 0).state = .running
      ∧ ((blocked (running [atB, behind] [])).lane 0).span = [atB] ++ behind :: [] ∧ behind.tAOff = none)
    ∧ ∀ q ∈ ((blocked (running [atB] [])).lane 0).span, q.tAOff ≠ none := by decide

theorem witness_BeamBLeadingEdge :
    (((blocked opened).lane 0).beamB.level = true ∧ (opened.lane 0).beamB.level = false ∧ (opened.lane 0).state ≠ .running)
    ∧ (((running [atB, behind] []).lane 0).beamB.level = false ∧ ((running [atB, behind] []).lane 0).state = .running
      ∧ ((running [atB, behind] []).lane 0).span = [atB] ++ behind :: [] ∧ (∀ q ∈ [atB], q.tBOn ≠ none)
      ∧ behind.tBOn = none) := by decide

/-- Record 41 with its tag, as it stands at its B_off. -/
def tagged : Passage := { atB with tag := some ⟨7, 1203⟩ }

/-- Record 41 measured at tick 15,800 with trim 0. -/
def measured (p : Passage) : Passage :=
  { p with tBOff := some 15800, length := some 320, speed := some 500, gateClear := some 22160 }

/-- A docket with no place left. -/
def crammed : Docket := { docket with runs := List.replicate 48 ⟨⟨9, .good, 0, .auto⟩, 1⟩, accepted := 48 }

theorem witness_BeamBTrailingEdge :
    ((opened.lane 0).beamB.level = false ∧ ((blocked opened).lane 0).beamB.level = true ∧ (opened.lane 0).state ≠ .running
      ∧ ∀ q ∈ ((blocked (running [behind] [])).lane 0).span, q.tBOn = none ∨ q.tBOff ≠ none)
    ∧ (((blocked (running [past, tagged, behind] (List.replicate 3 past))).lane 0).beamB.level = true
      ∧ ((blocked (running [past, tagged, behind] (List.replicate 3 past))).lane 0).travel.length < 4
      ∧ ((blocked (running [past, tagged, behind] (List.replicate 3 past))).lane 0).span = [past] ++ tagged :: [behind]
      ∧ (∀ q ∈ [past], q.tBOn = none ∨ q.tBOff ≠ none) ∧ tagged.tBOn = some 13200 ∧ tagged.tBOff = none
      ∧ tagged.tAOff = some 12560 ∧ Tick.since tagged.tAOn tagged.tAOn = 0)
    ∧ (refusal (classifyKey types26 (some docket) (measured atB)) = some .untagged)
    ∧ (classifyKey types26 (some docket) (measured tagged)).toOption = some ⟨3, .good, 0, .auto⟩
    ∧ crammed.reserve ⟨3, .good, 0, .auto⟩ = none ∧ (docket.reserve ⟨3, .good, 0, .auto⟩).isSome = true := by decide

theorem witness_NecksAndDamage :
    ((opened.lane 0).state ≠ .running ∧ ∀ q ∈ ((running [behind] []).lane 0).span, q.tBOn = none ∨ q.tBOff ≠ none)
    ∧ (((running [{ atB with necks := 255 }, behind] []).lane 0).state = .running
      ∧ ((running [{ atB with necks := 255 }, behind] []).lane 0).span = [] ++ { atB with necks := 255 } :: [behind]
      ∧ atB.tBOn ≠ none ∧ atB.tBOff = none)
    ∧ ((opened.lane 0).damage.pressed = false ∧ (opened.lane 0).span = [] ∧ ((running [atB] []).lane 0).damage.pressed = false
      ∧ ((running [atB] []).lane 0).span = atB :: [])
    ∧ ((opened.modLane 0 fun l => { l with damage := DamageInput.steady true }).lane 0).damage.pressed = true := by decide

/-- Lane 0 with bytes of a tag report taken, the last at tick 0. -/
def tagging (bytes : List Byte) (s : State) : State := s.modLane 0 fun l => { l with tagRx := ⟨bytes, 0, false⟩ }

theorem witness_TagReports :
    readCharacter 0 = .framingError
    ∧ (readCharacter (char 7) = .byte 7 ∧ ((tagging [7, 0xB3] opened).lane 0).tagRx.bytes.length < 3
      ∧ Tick.since 20 ((tagging [7, 0xB3] opened).lane 0).tagRx.lastStop ≤ 20
      ∧ 20 < Tick.since 21 ((tagging [7, 0xB3] opened).lane 0).tagRx.lastStop)
    ∧ (readCharacter (char 0x42) = .byte 0x42
      ∧ ((tagging [7, 0xB3, 4] (running [tagged, behind] [])).lane 0).tagRx.bytes = [7, 0xB3, 4]
      ∧ (7 + 0xB3 + 4 + 0x42 : Byte) = 0 ∧ (0xB3 : Byte).toNat + 256 * (4 : Byte).toNat ≠ 0
      ∧ ((tagging [7, 0xB3, 4] (running [tagged, behind] [])).lane 0).span = [tagged] ++ behind :: []
      ∧ (∀ q ∈ [tagged], q.tag ≠ none) ∧ behind.tag = none)
    ∧ (∀ q ∈ ((tagging [7, 0xB3, 4] (running [tagged] [])).lane 0).span, q.tag ≠ none)
    ∧ ((7 + 0xB3 + 4 + 7 : Byte) ≠ 0 ∧ (0 : Byte).toNat + 256 * (0 : Byte).toNat = 0)
    ∧ (readCharacter 0x3F = .dropped ∧ ((tagging [7] opened).lane 0).tagRx.bytes ≠ [] ∧ (opened.lane 0).tagRx.bytes = []) := by
  decide

theorem witness_FaultsHoldTheLane :
    (((running [atB, behind] []).lane 0).state = .running ∧ ((running [atB, behind] []).lane 0).holds = HoldSet.empty
      ∧ ((running [atB, behind] []).lane 0).beamA.level = false ∧ 2 ≤ ((running [atB, behind] []).lane 0).span.length)
    ∧ (((running [atB] []).lane 0).beamB.level = false ∧ ∀ q ∈ ((running [atB] []).lane 0).span, q.tBOn ≠ none)
    ∧ (((blocked (running [{ atB with tAOff := none }] [])).lane 0).beamB.level = true
      ∧ ((blocked (running [{ atB with tAOff := none }] [])).lane 0).span = [] ++ { atB with tAOff := none } :: []
      ∧ { atB with tAOff := none }.tBOn ≠ none ∧ { atB with tAOff := none }.tBOff = none
      ∧ { atB with tAOff := none }.tAOff = none)
    ∧ (((blocked (running [atB] (List.replicate 4 past))).lane 0).span = [] ++ atB :: [] ∧ atB.tAOff ≠ none
      ∧ 4 ≤ ((blocked (running [atB] (List.replicate 4 past))).lane 0).travel.length)
    ∧ (((lane0 .running fun l => { l with jamA := some 40000, jamB := some 40001 }).lane 0).jamA = some 40000
      ∧ ((lane0 .running fun l => { l with jamA := some 40000, jamB := some 40001 }).lane 0).jamB = some 40001)
    ∧ (∀ st ∈ [LaneState.off, .held],
      let s := lane0 st fun l => { l with jamA := some 40000, jamB := some 40001 };
      ((s.lane 0).state = .off ∨ (s.lane 0).state = .held) ∧ (s.lane 0).jamA = some 40000 ∧ (s.lane 0).jamB = some 40001)
    ∧ ((opened.lane 0).jamA = none ∧ (opened.lane 0).jamB = none) := by decide

/-- Lane 0 HOMING with `n` steps taken. -/
def homing (n : Nat) : State :=
  lane0 .homing fun l => { l with diverter := { l.diverter with step := some ⟨.accept, 20⟩, homingCount := n } }

/-- DIV_HOME of lane 0 at level `b` up to tick 0. -/
def homeLine (b : Bool) (s : State) : State :=
  s.modLane 0 fun l => { l with diverter := { l.diverter with home := Line.steady b } }

theorem witness_HomingFindsHome :
    (((homeLine true opened).lane 0).diverter.home.level = true ∧ ((homeLine false opened).lane 0).diverter.home.level = false
      ∧ ((homeLine true opened).lane 0).diverter.home.s0 = ((homeLine true opened).lane 0).diverter.home.s1
      ∧ ∀ n < 4, Tick.since (State.at (BitVec.ofNat 32 n) (homeLine true opened)).tick
        ((homeLine true opened).lane 0).diverter.homeTick = n)
    ∧ (((homing 22).lane 0).state = .homing ∧ ((homing 22).lane 0).diverter.step = some ⟨.accept, 20⟩
      ∧ ((homing 22).lane 0).diverter.homingCount + 1 < (homing 22).settings.lanes[0].throwSteps + 8)
    ∧ ((homing 23).settings.lanes[0].throwSteps + 8 ≤ ((homing 23).lane 0).diverter.homingCount + 1
      ∧ ((homing 23).lane 0).holds = HoldSet.empty)
    ∧ ((opened.lane 0).state ≠ .homing ∧ (opened.lane 0).diverter.step = none)
    ∧ Config.divHome 0 opened.port.resets ((homeLine (Config.divHome 0 0 1) opened).lane 0).diverter.homeReads
      = ((homeLine (Config.divHome 0 0 1) opened).lane 0).diverter.home.s0 :=
  ⟨by decide, by decide, by decide, by decide, rfl⟩

/-- Lane 0 RUNNING with one travel-queue record, the paddle at a position, and a step or none. -/
def paddle (d : Disposition) (pos : Nat) (step : Option MotorStep) : State :=
  lane0 .running fun l => { l with
    travel := [travelling d], diverter := { l.diverter with position := pos, homed := true, step := step } }

/-- Chapter 3, section 3.2, in DOUBLE mode from phase index 0: the first step of a homing takes the phase index to 3; with DIV_HOME
active at the start the lane is RUNNING at once. -/
theorem test_homing_begins :
    let double := { opened with settings := written [.mode 0 .double] }
    let at' (home : Bool) := (State.beginHoming 0 (double.modLane 0 fun l => { l with
      diverter := { l.diverter with home := Line.steady home } })).lane 0
    ((at' false).state, (at' false).diverter.phaseIndex, (at' false).diverter.step)
      = (.homing, 3, some ⟨.accept, 20⟩) ∧ (at' true).state = .running := by decide

/-- R41: homing reads the accepted level. A lane whose filter has taken DIV_HOME active on the present tick, its line low again,
finds home at once. -/
theorem test_homing_reads_the_accepted_level :
    ((State.startHoming 0 (opened.modLane 0 fun l => { l with
      diverter := { l.diverter with home := ⟨false, false, true, true, true⟩, homeTick := 0 } })).lane 0).state
      = .running := by decide

theorem witness_PaddleMovesTowardTheTarget :
    (((paddle foreign 3 (some ⟨.refuse, 20⟩)).lane 0).state = .running
      ∧ ((paddle foreign 3 (some ⟨.refuse, 20⟩)).lane 0).diverter.step = some ⟨.refuse, 20⟩)
    ∧ ((opened.lane 0).state ≠ .running ∧ (opened.lane 0).diverter.step = none ∧ (opened.lane 0).travel = []
      ∧ ∃ p ∈ ((running [] [{ travelling foreign with committed := true }]).lane 0).travel, p.committed = true)
    ∧ (((paddle foreign 16 none).lane 0).travel = travelling foreign :: []
      ∧ (∀ q ∈ travelling foreign :: [], q.committed = false) ∧ (travelling foreign).disposition = some foreign
      ∧ ((paddle foreign 16 none).lane 0).diverter.step = none
      ∧ ((paddle foreign 16 none).lane 0).diverter.position = (paddle foreign 16 none).settings.lanes[0].throwSteps
      ∧ ((paddle foreign 15 none).lane 0).diverter.position ≠ (paddle foreign 15 none).settings.lanes[0].throwSteps)
    ∧ ((travelling accepted3).disposition = some (.accept 3 .good 19) ∧ ((paddle accepted3 0 none).lane 0).diverter.position = 0
      ∧ ((paddle accepted3 1 none).lane 0).diverter.position ≠ 0) := by decide

/-- A record with a place in plan entry 0. -/
def placed : Passage := { travelling accepted3 with entry := some 0 }

/-- Lane 0 with record `p` last in the travel queue behind one that is committed. -/
def atGate (p : Passage) (pos : Nat) : State :=
  lane0 .running fun l => { l with travel := [{ past with seq := 40, committed := true }, p]
                                   diverter := { l.diverter with position := pos } }

theorem witness_GateArrivalAndClear :
    ((opened.lane 0).state ≠ .running)
    ∧ (((atGate placed 0).lane 0).state = .running
      ∧ ((atGate placed 0).lane 0).travel = [{ past with seq := 40, committed := true }] ++ placed :: []
      ∧ (∀ q ∈ [{ past with seq := 40, committed := true }], q.seq = 41 → q.committed = true) ∧ placed.seq = 41
      ∧ placed.committed = false ∧ placed.gateArrival = some 19600 ∧ placed.disposition = some (.accept 3 .good 19)
      ∧ placed.entry = some 0 ∧ ((atGate placed 0).lane 0).diverter.step = none
      ∧ ((atGate placed 0).lane 0).diverter.position = 0)
    ∧ ((travelling foreign).disposition = some (.refuse .foreign)
      ∧ ((atGate (travelling foreign) 16).lane 0).diverter.position = (atGate (travelling foreign) 16).settings.lanes[0].throwSteps)
    ∧ (((atGate (travelling foreign) 15).lane 0).holds = HoldSet.empty
      ∧ (∀ q ∈ ((atGate (travelling foreign) 15).lane 0).span, q.seq ≠ 41)
      ∧ ((atGate (travelling foreign) 15).lane 0).diverter.position
        ≠ (atGate (travelling foreign) 15).settings.lanes[0].throwSteps)
    ∧ (((running [atB] []).lane 0).span = [] ++ atB :: [] ∧ atB.seq = 41 ∧ atB.committed = false
      ∧ atB.gateArrival = some 19600 ∧ atB.entry = none ∧ ∀ q ∈ ((running [atB] []).lane 0).travel, q.seq ≠ 41)
    ∧ (∀ q ∈ ((running [atB] []).lane 0).travel ++ ((running [atB] []).lane 0).span, q.seq ≠ 65535)
    ∧ (let s := running [{ entering with seq := 42 }] [{ placed with committed := true }];
      (s.lane 0).awaitingArrival 41 = none ∧ (s.lane 0).awaitingArrival 42 = none
      ∧ ∀ q ∈ (s.lane 0).travel ++ (s.lane 0).span, q.committed = true ∨ q.gateArrival = none)
    ∧ (((running [] [{ placed with committed := true }]).lane 0).travel = [] ++ { placed with committed := true } :: []
      ∧ { placed with committed := true }.gateClear = some 22160 ∧ ([] ++ [] : List Passage) = []
      ∧ ((running [] [{ placed with committed := true }]).lane 0).docket.map Docket.state ≠ some .closing
      ∧ ((State.modDocket 0 (fun d => { d with state := .closing })
          (running [] [{ placed with committed := true }])).lane 0).docket.map Docket.state = some .closing)
    ∧ (∀ q ∈ ((running [] [placed]).lane 0).travel, q.seq = 41 → q.committed = false) := by decide

/-- Lane 0 with a QUIET docket and its timers as given. -/
def quiet (st : DocketState) (q a : Option Tick) (span : List Passage) : State :=
  lane0 .running fun l => { l with
    docket := some { docket with state := st }, quietTimer := q, autoCloseTimer := a, span := span }

theorem witness_QuietDocketsClose :
    ((opened.lane 0).quietTimer = none ∧ (opened.lane 0).autoCloseTimer = none)
    ∧ (((quiet .opened (some 480000) none []).lane 0).docket = some { docket with state := .opened }
      ∧ ((quiet .opened (some 480000) none []).lane 0).quietTimer = some 480000
      ∧ { docket with state := .opened }.state = .opened)
    ∧ (((quiet .quiet none (some 720000) [atB]).lane 0).docket = some { docket with state := .quiet }
      ∧ ((quiet .quiet none (some 720000) [atB]).lane 0).autoCloseTimer = some 720000
      ∧ ((quiet .quiet none (some 720000) [atB]).lane 0).span ≠ [])
    ∧ (((quiet .quiet none (some 720000) []).lane 0).span = [] ∧ ((quiet .quiet none (some 720000) []).lane 0).travel = []) := by
  decide

theorem witness_TypeWriteChecksInOrder :
    (opened.free ∧ opened.part.state ≠ .starting)
    ∧ (∃ i, ((lane0 .held id).lane i).docket.isSome) ∧ saving.part.save.isSome = true ∧ 24 ≤ { entry with index := 24 }.index
    ∧ (({ entry with index := 5 }).enabled = true ∧ ({ entry with index := 5 }).tag ≠ 0 ∧ (3 : Fin 24).val ≠ 5
      ∧ types26[(3 : Fin 24)].owner = entry.owner ∧ types26[(3 : Fin 24)].tag = entry.tag)
    ∧ ((4 : Fin 24).val ≠ 3 ∧ types26[(4 : Fin 24)].tag = 0 ∧ types26[(4 : Fin 24)].lengthMin ≤ 360)
    ∧ (entry.index < 24 ∧ (∀ i, ¬ (opened.lane i).docket.isSome = true) ∧ opened.part.save.isSome = false
      ∧ (execTypeWrite entry opened matches .next _) = true
      ∧ ∀ j : Fin 24, j.val ≠ 3 → ¬ (types26[j].owner = 7 ∧ types26[j].tag = 1203)) :=
  ⟨⟨opened_free, by decide⟩, ⟨0, by decide⟩, rfl, by decide, by decide, by decide, by decide⟩

theorem witness_TypeReadReturnsTheEntry : opened.free ∧ opened.part.state ≠ .starting ∧ 24 ≤ 24 ∧ 23 < 24 :=
  ⟨opened_free, by decide⟩

theorem types26_consistent : TableConsistent types26 := by unfold TableConsistent; decide

theorem witness_ClassificationSteps :
    TableConsistent types26 ∧ (measured tagged).length = some 320
    ∧ { measured tagged with unsteady := some .speed }.unsteady = some .speed
    ∧ { measured tagged with unsteady := some .unsteady }.unsteady = some .unsteady
    ∧ ((measured tagged).unsteady = none ∧ (none : Option Docket).all (·.state = .closing) = true
      ∧ (some docket).all (·.state = .closing) = false)
    ∧ ((measured tagged).tag = some ⟨7, 1203⟩ ∧ types26[(3 : Fin 24)].enabled = true ∧ types26[(3 : Fin 24)].tag ≠ 0
      ∧ types26[(3 : Fin 24)].owner = 7 ∧ types26[(3 : Fin 24)].tag = 1203 ∧ types26[(3 : Fin 24)].lengthMin ≤ 310
      ∧ 335 ≤ types26[(3 : Fin 24)].lengthMax ∧ types26[(3 : Fin 24)].lengthMax < 336 ∧ 309 < types26[(3 : Fin 24)].lengthMin)
    ∧ (∀ t : Fin 24, ¬ (types26[t].enabled = true ∧ types26[t].tag ≠ 0 ∧ types26[t].owner = 7 ∧ types26[t].tag = 1299))
    ∧ (∀ t : Fin 24, ¬ (types26[t].enabled = true ∧ types26[t].tag ≠ 0 ∧ types26[t].owner = 31))
    ∧ ((measured atB).tag = none ∧ types26[(4 : Fin 24)].enabled = true ∧ types26[(4 : Fin 24)].tag = 0
      ∧ types26[(4 : Fin 24)].lengthMin ≤ 360 ∧ 390 ≤ types26[(4 : Fin 24)].lengthMax)
    ∧ ∀ t : Fin 24, types26[t].enabled = true → types26[t].tag = 0 → 320 < types26[t].lengthMin ∨ types26[t].lengthMax < 320 :=
  ⟨types26_consistent, by decide, by decide, by decide, by decide, by decide, by decide, by decide, by decide, by decide⟩

/-- Account 17 changed. -/
def with17 (f : Account → Account) : State := { opened with accounts := opened.accounts.set 17 (some (f account17)) }

theorem witness_DocketOpens :
    (opened.free ∧ opened.part.state = .opened ∧ 4 ≤ 4 ∧ 64 ≤ 64 ∧ 3 ≤ 3)
    ∧ (((lane0 .held id).lane 0).docket.isSome = true
      ∧ ((opened.modLane 0 fun l => { l with state := .held }).lane 0).state ≠ .off
      ∧ opened.account 16 = none ∧ ((with17 fun a => { a with suspended := true }).account 17).any Account.suspended = true
      ∧ ((with17 fun a => { a with cash := false }).account 17).any (!·.cash) = true
      ∧ (queue (fun q => { q with pressure := .high }) opened).queue.pressure = .high
      ∧ ((blocked opened).lane 0).beamA.level = true)
    ∧ ((opened.lane 0).docket.isSome = false ∧ (opened.lane 0).state = .off ∧ opened.settings.lanes[0].enable = true
      ∧ opened.account 17 = some account17 ∧ account17.suspended = false ∧ account17.cash = true
      ∧ opened.queue.pressure = .normal ∧ (opened.lane 0).beamA.level = false ∧ (opened.lane 0).beamB.level = false) :=
  ⟨⟨opened_free, by decide⟩, by decide, by decide⟩

def key3 : RunKey := ⟨3, .good, 20, .auto⟩
def key9 : RunKey := ⟨9, .damaged, 0, .auto⟩

/-- A docket with one run and a plan of two entries, the second unmade. -/
def planned : Docket :=
  { docket with
    runs := [⟨key3, 254⟩], accepted := 254, plan := [⟨0, key3, some 0, 1⟩, ⟨1, key9, none, 2⟩], reserved := 1, nextEntry := 2 }

theorem planned_sound : planned.Sound := by
  refine ⟨by decide, by decide, by decide, by decide, by decide, ?_⟩
  simp [planned]

theorem witness_PlanReservesCommitsReleases :
    (planned.plan = [⟨0, key3, some 0, 1⟩] ++ [⟨1, key9, none, 2⟩] ∧ key9 ≠ key3 ∧ planned.runs.length + planned.reserved < 48)
    ∧ ({ planned with plan := [⟨0, key3, some 0, 1⟩] }.plan = [] ++ [⟨0, key3, some 0, 1⟩]
      ∧ 255 ≤ (({ planned with plan := [⟨0, key3, some 0, 1⟩] }.runs[0]?.map Run.count).getD 0) + 1)
    ∧ (crammed.plan = [] ∧ crammed.runs = List.replicate 47 ⟨⟨9, .good, 0, .auto⟩, 1⟩ ++ [⟨⟨9, .good, 0, .auto⟩, 1⟩]
      ∧ ¬ crammed.runs.length + crammed.reserved < 48 ∧ (1 : Nat) < 255)
    ∧ (docket.plan = [] ∧ docket.runs = [] ∧ docket.runs.length + docket.reserved < 48)
    ∧ (planned.Sound ∧ planned.plan = [] ++ ⟨0, key3, some 0, 1⟩ :: [⟨1, key9, none, 2⟩]
      ∧ planned.plan = [⟨0, key3, some 0, 1⟩] ++ ⟨1, key9, none, 2⟩ :: []) :=
  ⟨by decide, by decide, by decide, by decide, planned_sound, rfl, rfl⟩

/-- Lane 0 RUNNING with the docket given. -/
def withDocket (d : Docket) : State := (lane0 .running id).modLane 0 fun l => { l with docket := some d }

def keyM : RunKey := ⟨3, .good, 20, .manual⟩

theorem witness_DocketAdjusts :
    (opened.free ∧ opened.part.state ≠ .starting ∧ (-256 : Int) < -255 ∧ 255 < (256 : Int) ∧ (4 : Nat) ≤ 4 ∧ 24 ≤ 24 ∧ 40 < 41)
    ∧ ((opened.lane 0).docket = none
      ∧ ((withDocket { docket with state := .closing }).lane 0).docket = some { docket with state := .closing })
    ∧ (((withDocket docket).lane 0).docket = some docket ∧ docket.state ≠ .closing ∧ docket.runs = []
      ∧ (255 : Int) = Int.ofNat 255 ∧ opened.types[(0 : Fin 24)].enabled = false ∧ opened.types[(3 : Fin 24)].enabled = true
      ∧ opened.types[(3 : Fin 24)].slots < 21 ∧ 20 ≤ opened.types[(3 : Fin 24)].slots)
    ∧ ({ docket with runs := [⟨keyM, 200⟩] }.runs = [] ++ [⟨keyM, 200⟩] ∧ 200 + 55 ≤ 255 ∧ 200 < 255 ∧ 255 < 200 + 56)
    ∧ (crammed.runs = List.replicate 47 ⟨⟨9, .good, 0, .auto⟩, 1⟩ ++ [⟨⟨9, .good, 0, .auto⟩, 1⟩]
      ∧ (⟨9, .good, 0, .auto⟩ : RunKey) ≠ keyM ∧ 48 ≤ crammed.runs.length + crammed.reserved)
    ∧ ((∀ r ∈ planned.runs, 1 ≤ r.count) ∧ planned.state ≠ .closing ∧ planned.runs = [] ++ ⟨key3, 254⟩ :: [] ∧ 0 < 254
      ∧ 254 ≤ 254 ∧ ((withDocket planned).lane 0).docket = some planned ∧ 254 < 255) :=
  ⟨⟨opened_free, by decide⟩, by decide, by decide, by decide, by decide, by decide⟩

theorem witness_DocketClosesOrIsCancelled :
    (opened.free ∧ opened.part.state ≠ .starting ∧ 4 ≤ 4 ∧ (opened.lane 3).docket = none)
    ∧ (((withDocket { docket with state := .closing }).lane 0).docket = some { docket with state := .closing })
    ∧ (((withDocket docket).lane 0).docket = some docket ∧ docket.state ≠ .closing ∧ ((withDocket docket).lane 0).span = []
      ∧ ((withDocket docket).lane 0).travel = [] ∧ ((withDocket docket).lane 0).state = .running
      ∧ ((withDocket docket).lane 0).holds = HoldSet.empty ∧ ((running [atB] []).lane 0).span ≠ [])
    ∧ ((lane0 .held fun l => { l with holds := HoldSet.empty.add .jam }).lane 0).state = .held
    ∧ ((lane0 .held fun l => { l with holds := HoldSet.empty.add .jam }).lane 0).holds.cancelled = false :=
  ⟨⟨opened_free, by decide⟩, by decide, by decide, by decide, by decide⟩

theorem witness_LaneHoldReleaseAndTrim :
    (opened.free ∧ opened.part.state ≠ .starting ∧ 4 ≤ 4 ∧ (opened.lane 0).state = .off ∧ (opened.lane 0).state ≠ .held)
    ∧ (((running [] []).lane 0).state = .running ∧ ((running [] []).lane 0).holds = HoldSet.empty)
    ∧ (((lane0 .held id).lane 0).state = .held ∧ ((lane0 .held id).lane 0).holds.requested = false
      ∧ ((lane0 .held fun l => { l with holds := HoldSet.empty.add .requested }).lane 0).holds.requested = true
      ∧ ((lane0 .held id).lane 0).beamA.level = false ∧ ((lane0 .held id).lane 0).beamB.level = false
      ∧ ((lane0 .held id).lane 0).docket ≠ none ∧ ((blocked (lane0 .held id)).lane 0).beamA.level = true
      ∧ ((opened.modLane 0 fun l => { l with state := .held }).lane 0).docket = none)
    ∧ ((-64 : Int) < -63 ∧ (63 : Int) < 64 ∧ opened.part.save = none) ∧ saving.part.save ≠ none :=
  ⟨⟨opened_free, by decide⟩, by decide, by decide, ⟨by decide, by decide, rfl⟩, by simp [saving, part]⟩

theorem witness_AccountsAreWritten :
    (opened.free ∧ opened.part.state ≠ .starting ∧ 64 ≤ { record with index := 64 }.index ∧ record.index < 64)
    ∧ ((record.state = 1 ∧ 1 ≤ record.number ∧ record.number ≤ 4294967295 ∧ record.dayCap ≤ 99999999 ∧ record.credit ≤ 99999999
        ∧ record.paidToday ≤ record.dayCap ∧ record.pairs.length ≤ 24 ∧ (record.pairs.map Prod.fst).Nodup)
      ∧ ∀ p ∈ record.pairs, p.1 < 24 ∧ 1 ≤ p.2 ∧ p.2 ≤ 65535)
    ∧ ((17 : Fin 64).val ≠ { record with index := 18 }.index ∧ opened.accounts[(17 : Fin 64)].any (·.number = record.number) = true)
    ∧ (((withDocket docket).dockets.any (·.account = record.index)) = true ∧ { record with state := 0 }.state = 0)
    ∧ (opened.dockets.any (·.account = record.index) = false ∧ opened.queue.orders.any (·.account = record.index) = false)
    ∧ (opened.accounts[16] = none ∧ opened.accounts[17] = some account17 ∧ opened.types[0].enabled = false
      ∧ opened.types[3].enabled = true ∧ 65535 < 65536) :=
  ⟨⟨opened_free, by decide⟩, by decide, by decide, by decide, by decide, by decide⟩

theorem witness_AccountWindowReplies :
    (opened.free ∧ opened.part.state ≠ .starting ∧ 62 < 63 ∧ 64 ≤ 64 ∧ 63 ≤ 63 ∧ 63 < 64 ∧ opened.port.window = none)
    ∧ ((port (fun p => { p with window := some ⟨63, 64, 0⟩ }) opened).port.window = some ⟨63, 64, 0⟩ ∧ 64 ≤ 63 + 1) :=
  ⟨⟨opened_free, by decide⟩, by decide⟩

/-- Docket 331's runs for a settlement with a payout (chapter 7, section 7.10). -/
def paying : Docket := { docket with runs := [⟨⟨9, .good, 0, .auto⟩, 5⟩], accepted := 5 }

theorem witness_SettlementSplit :
    (computeSettlement types26 500 account17 .cash paying.runs).applied = .cash ∧ 0 < 500
    ∧ (computeSettlement types26 500 account17 .voucher paying.runs).applied = .voucher
    ∧ (computeSettlement types26 500 { account17 with suspended := true } .cash paying.runs).applied = .account := by decide

theorem witness_SettlementSettlesTheDocket :
    (((withDocket paying).lane 0).docket = some paying ∧ (withDocket paying).accounts[17] = some account17
      ∧ 0 < (computeSettlement types26 500 account17 .cash paying.runs).payout
      ∧ (computeSettlement types26 500 account17 .cash paying.runs).applied = .cash)
    ∧ (((withDocket docket).lane 0).docket = some docket ∧ (computeSettlement types26 500 account17 .cash []).payout = 0
      ∧ docket.method ≠ .account)
    ∧ ({ docket with method := .account }.method = .account ∧ (computeSettlement types26 500 account17 .account []).payout = 0) := by
  decide

theorem witness_NumbersAndPressure :
    (1 ≤ opened.part.nextDocket ∧ opened.part.nextDocket ≤ 65535 ∧ ∀ d ∈ opened.dockets, d.number ≠ opened.part.nextDocket)
    ∧ (1 ≤ ordered.queue.nextOrder ∧ ordered.queue.nextOrder ≤ 65535 ∧ ordered.queue.orders.length ≤ 16
      ∧ (∀ o ∈ ordered.queue.orders, o.number ≠ ordered.queue.nextOrder) ∧ ordered.queue.commitments = 0 + 1)
    ∧ ((queue (fun q => { q with commitments := 12 }) opened).queue.pressure = .normal
      ∧ opened.settings.highMark ≤ (queue (fun q => { q with commitments := 12 }) opened).queue.commitments)
    ∧ ((queue (fun q => { q with commitments := 8, pressure := .high }) opened).queue.pressure = .high
      ∧ (queue (fun q => { q with commitments := 8, pressure := .high }) opened).queue.commitments ≤ opened.settings.lowMark)
    ∧ (opened.queue.pressure = .normal ∧ opened.queue.commitments < opened.settings.highMark)
    ∧ opened.settings.lowMark < (queue (fun q => { q with commitments := 9, pressure := .high }) opened).queue.commitments := by
  decide

theorem witness_PayCreditMakesAnOrder :
    (opened.free ∧ opened.part.state = .opened)
    ∧ ((64 : Nat) ≤ 64 ∧ 99999999 < 100000000 ∧ (queue (fun q => { q with pressure := .high }) opened).queue.pressure = .high
      ∧ opened.account 16 = none ∧ ((with17 fun a => { a with suspended := true }).account 17).any Account.suspended = true
      ∧ ((with17 fun a => { a with voucher := false }).account 17).any (!·.voucher) = true
      ∧ min 499 (min account17.credit (account17.dayCap - account17.paidToday)) / 500 * 500 = 0)
    ∧ (opened.account 17 = some account17 ∧ account17.suspended = false ∧ account17.cash = true
      ∧ opened.queue.pressure = .normal
      ∧ min 99999999 (min account17.credit (account17.dayCap - account17.paidToday)) / 500 * 500 = 1500) :=
  ⟨⟨opened_free, rfl⟩, by decide, by decide⟩

theorem witness_OrderCancelReturnsTheUnpaid :
    (ordered.free ∧ ordered.part.state ≠ .starting ∧ (65535 : Nat) ≠ 0 ∧ ∀ o ∈ ordered.queue.orders, o.number ≠ 65535)
    ∧ (∃ o ∈ (queue (fun q => { q with history := [{ order with number := 65535 }] }) ordered).queue.history, o.number = 65535)
    ∧ (∀ o ∈ ordered.queue.history, o.number ≠ 65535)
    ∧ (ordered.queue.orders = [] ++ order :: [] ∧ order.number = 5 ∧ order.state = .waiting ∧ order.account < 64
      ∧ ordered.accounts[17] = some account17)
    ∧ ((queue (fun q => { q with orders := [{ order with state := .serving }] }) opened).queue.orders
        = [] ++ { order with state := .serving } :: []) :=
  ⟨⟨⟨rfl, rfl⟩, by decide⟩, ⟨_, List.mem_singleton.2 rfl, rfl⟩, by decide, by decide, by decide⟩

/-- Bay 0 READY with the order of `order` waiting, its method `m`. -/
def offering (k : BayKind) (m : PayMethod) : State :=
  queue (fun q => { q with orders := [{ order with method := m }], commitments := 1 }) (bay0 .ready k id)

theorem witness_ArbiterHandsOver :
    ((opened.bay 0).state ≠ .ready)
    ∧ (((offering .cash .voucher).bay 0).kind = some .cash
      ∧ ∀ o ∈ (offering .cash .voucher).queue.orders, o.state = .waiting → o.method ≠ .cash)
    ∧ (((offering .voucher .cash).bay 0).kind = some .voucher
      ∧ (∀ o ∈ (offering .voucher .cash).queue.orders, o.state = .waiting → o.method ≠ .voucher)
      ∧ (part (fun p => { p with voucherSeq := none }) (offering .voucher .voucher)).part.voucherSeq = none)
    ∧ (((offering .cash .cash).bay 0).state = .ready ∧ (offering .cash .cash).queue.orders = [] ++ order :: []
      ∧ order.state = .waiting ∧ order.method = .cash ∧ ((offering .cash .cash).bay 0).service.pulse = none
      ∧ ((offering .cash .cash).bay 0).service.pulseEnd = none)
    ∧ (let s := (offering .cash .cash).modBay 0 fun y => { y with service := { y.service with pulse := some 80 } };
      (s.bay 0).state = .ready ∧ (s.bay 0).kind = some .cash ∧ s.queue.orders = [] ++ order :: []
      ∧ (s.bay 0).service.pulse = some 80)
    ∧ (let s := (offering .cash .cash).modBay 0 fun y => { y with service := { y.service with pulseEnd := some 80 } };
      (s.bay 0).state = .ready ∧ (s.bay 0).service.pulse = none ∧ (s.bay 0).service.pulseEnd = some 80
      ∧ 80 ≤ Tick.since 160 80 ∧ Tick.since 159 80 < 80)
    ∧ ((offering .voucher .voucher).queue.orders = [] ++ { order with method := .voucher } :: []
      ∧ (offering .voucher .voucher).part.voucherSeq = some 1) := by decide

/-- The order a bay serves, and bay 0 serving it with a unit outstanding. -/
def served : PayOrder := { order with state := .serving, bay := some 0 }

def serving (st : BayState) (k : BayKind) (f : Bay → Bay) : State :=
  queue (fun q => { q with orders := [served], commitments := 1 })
    (bay0 st k fun y => f { y with service := { y.service with order := some 5, unitTimer := some 4000 } })

theorem serving_serves (st : BayState) (k : BayKind) : (serving st k id).bayServes 0 (some served) := by
  constructor
  · rfl
  · intro o h
    cases h
    rfl

theorem witness_BayPowerFollowsTheTable :
    (opened.free ∧ opened.part.state ≠ .starting ∧ 2 ≤ 2)
    ∧ (((bay0 .off .cash id).bay 0).state = .off ∧ (opened.bay 0).state ≠ .off ∧ (opened.bay 0).state = .vacant
      ∧ ((bay0 .ready .cash id).bay 0).state = .ready)
    ∧ (((serving .serving .cash id).bay 0).state = .serving ∧ ((serving .serving .cash id).bay 0).service.unitTimer ≠ none)
    ∧ (((bay0 .serving .cash id).bay 0).state = .serving ∧ ((bay0 .serving .cash id).bay 0).service.unitTimer = none
      ∧ ((bay0 .serving .cash id).bay 0).service.print = none ∧ (bay0 .serving .cash id).bayServes 0 none) :=
  ⟨⟨opened_free, by decide⟩, by decide, by decide, rfl, rfl, rfl, rfl, by simp⟩

theorem witness_SeatChangesTheBay :
    ((opened.bay 0).seat1.level = false ∧ (opened.bay 0).seat2.level = false ∧ (opened.bay 0).enable = true)
    ∧ (let s := (opened.modBay 0 fun y => { y with seat2 := ⟨true, true, 0⟩, enable := false });
      (s.bay 0).seat1.level = false ∧ (s.bay 0).seat2.level = true ∧ (s.bay 0).enable = false)
    ∧ ((seated.bay 0).seat1.level = true ∧ (seated.bay 0).seat2.level = true ∧ seated.bayServes 0 none)
    ∧ (let s := (serving .serving .cash fun y => { y with seat1 := ⟨true, true, 0⟩, seat2 := ⟨true, true, 0⟩ });
      (s.bay 0).seat1.level = true ∧ (s.bay 0).seat2.level = true ∧ s.bayServes 0 (some served)) :=
  ⟨by decide, by decide, ⟨rfl, rfl, rfl, by simp⟩, rfl, rfl, rfl, by
    intro o h
    cases h
    rfl⟩

theorem witness_BaysPowerUp :
    (let s := (bay0 .powering .cash fun y => { y with powerTimer := some 800 });
      (s.bay 0).state = .powering ∧ (s.bay 0).powerTimer = some 800 ∧ (s.bay 0).service.order = none)
    ∧ (let s := (bay0 .starting .cash fun y => { y with powerTimer := some 8800 });
      (s.bay 0).state = .starting ∧ (s.bay 0).powerTimer = some 8800 ∧ (s.bay 0).service.order = none
        ∧ (s.bay 0).modFault.level = false)
    ∧ ((opened.bay 0).state ≠ .powering ∧ (opened.bay 0).state ≠ .starting)
    ∧ (let s := (bay0 .starting .cash fun y => { y with modFault := Line.steady true });
      (s.bay 0).state = .starting ∧ (s.bay 0).modFault.level = true ∧ (s.bay 0).service.order = none) := by decide

theorem witness_FailuresFaultTheBay :
    ((serving .serving .cash id).bayServes 0 (some served) ∧ ((serving .serving .cash id).bay 0).state = .serving
      ∧ ((serving .serving .cash id).bay 0).service.unitTimer = some 4000)
    ∧ ((serving .stopping .cash id).bayServes 0 (some served) ∧ ((serving .stopping .cash id).bay 0).state = .stopping)
    ∧ ((bay0 .ready .cash id).bayServes 0 none ∧ ((bay0 .ready .cash id).bay 0).state = .ready
      ∧ ((bay0 .starting .cash id).bay 0).state = .starting ∧ (bay0 .starting .cash id).bayServes 0 none)
    ∧ ((opened.bay 0).state = .vacant ∧ opened.bayServes 0 none ∧ (opened.bay 0).service.unitTimer = none
      ∧ (opened.bay 0).service.printTimer = none)
    ∧ ((serving .serving .voucher fun y => { y with service := { y.service with printTimer := some 20000 } }).bay 0).service.printTimer
        = some 20000 :=
  ⟨⟨serving_serves _ _, rfl, rfl⟩, ⟨serving_serves _ _, rfl⟩, ⟨⟨rfl, by simp⟩, rfl, rfl, rfl, by simp⟩,
    ⟨rfl, ⟨rfl, by simp⟩, rfl, rfl⟩, rfl⟩

theorem witness_UnitsArePaid :
    ((opened.bay 0).kind ≠ some .cash ∧ ((bay0 .ready .cash id).bay 0).kind = some .cash
      ∧ ((bay0 .ready .cash id).bay 0).service.unitTimer = none)
    ∧ (((serving .serving .cash id).bay 0).kind = some .cash
      ∧ ((serving .serving .cash id).bay 0).service.unitTimer = some 4000
      ∧ (serving .serving .cash id).queue.orders = [] ++ served :: [] ∧ served.number = 5
      ∧ ((serving .serving .cash id).bay 0).service.order = some served.number
      ∧ served.paid + (serving .serving .cash id).settings.cashUnit < served.amount
      ∧ { served with paid := 1000 }.amount ≤ { served with paid := 1000 }.paid + (serving .serving .cash id).settings.cashUnit)
    ∧ (∀ on ∈ [true, false], let s := (serving .stopping .cash fun y => { y with enable := on });
      (s.bay 0).state = .stopping ∧ (s.bay 0).enable = on ∧ (s.bay 0).kind = some .cash
      ∧ (s.bay 0).service.unitTimer = some 4000 ∧ (s.bay 0).service.order = some served.number
      ∧ s.queue.orders = [] ++ served :: [])
    ∧ ((serving .serving .cash fun y => { y with service := { y.service with pulse := some 80 } }).bay 0).service.pulse = some 80
    ∧ (((serving .serving .cash fun y => { y with service := { y.service with pulseEnd := some 80 } }).bay 0).service.pulse = none
      ∧ 80 ≤ Tick.since 160 80 ∧ Tick.since 159 80 < 80)
    ∧ (((bay0 .serving .cash fun y => { y with service := { y.service with nextUnit := some 160 } }).bay 0).service.nextUnit
        = some 160 ∧ (opened.bay 0).service.pulse = none ∧ (opened.bay 0).service.nextUnit = none) := by decide

/-- Bay 0 serving a voucher order, its print of day 214, number 1, attempt 1 outstanding. -/
def printing (buffer : Option (List Byte)) : State :=
  serving .serving .voucher fun y => { y with
    service := { y.service with unitTimer := none, print := some ⟨214, 1, 1⟩, printFrame := [0xA7] }, rx := ⟨buffer, 0, false⟩ }

def printed : List Byte := [0x51, 214, 0, 1, 0, 1]
def failed : List Byte := [0x52, 214, 0, 1, 0, 1, 9]

theorem witness_VouchersArePrinted :
    (((printing none).bay 0).service.printFrame ≠ [] ∧ (opened.bay 0).service.printFrame = []
      ∧ ((printing none).bay 0).kind = some .voucher
      ∧ ((printing none).bay 0).rx.buffer = none ∧ readCharacter (char 0xA7) = .byte 0xA7)
    ∧ (((printing (some [])).bay 0).rx.buffer = some [] ∧ Tick.since 80 ((printing (some [])).bay 0).rx.lastStop ≤ 80
      ∧ readCharacter 0x3F = .dropped)
    ∧ (((printing (some [6, 0x51])).bay 0).rx.buffer = some (6 :: [0x51]) ∧ [(0x51 : Byte)].length < (6 : Byte).toNat)
    ∧ (((printing (some (6 :: printed))).bay 0).rx.buffer = some (6 :: printed) ∧ printed.length = (6 : Byte).toNat
      ∧ readCharacter (char 0xD1) = .byte 0xD1 ∧ (6 : Byte) + printed.sum + 0xD1 = 0 ∧ (6 : Byte) + printed.sum + 0xD2 ≠ 0
      ∧ (214 : Byte).toNat + 256 * (0 : Byte).toNat = 214 ∧ ((printing (some (6 :: printed))).bay 0).state = .serving
      ∧ ((printing (some (6 :: printed))).bay 0).service.print = some ⟨214, 1, 1⟩
      ∧ ((printing (some (6 :: printed))).bay 0).service.order = some served.number
      ∧ (printing (some (6 :: printed))).queue.orders = [] ++ served :: [])
    ∧ (failed.length = (7 : Byte).toNat ∧ (7 : Byte) + failed.sum + 0xC6 = 0 ∧ readCharacter (char 0xC6) = .byte 0xC6)
    ∧ ((opened.bay 0).kind ≠ some .voucher ∧ readCharacter 0 = .framingError
      ∧ 80 < Tick.since 81 ((printing (some [6, 0x51])).bay 0).rx.lastStop)
    ∧ ((failed.take 6).headD 0 = 0x52 ∧ (failed.take 6).length ≠ 7 ∧ (printed ++ [9]).headD 0 = 0x51
      ∧ (printed ++ [9]).length ≠ 6 ∧ [(0x50 : Byte)].headD 0 ≠ 0x51 ∧ [(0x50 : Byte)].headD 0 ≠ 0x52)
    ∧ (∀ on ∈ [true, false], let s := (printing (some (6 :: printed))).modBay 0 fun y => { y with
        state := .stopping, enable := on };
      (s.bay 0).state = .stopping ∧ (s.bay 0).enable = on ∧ (s.bay 0).service.print = some ⟨214, 1, 1⟩
      ∧ (s.bay 0).service.order = some served.number)
    ∧ ((serving .serving .voucher id).bay 0).service.print = none
    ∧ ∀ len body, ((printing none).bay 0).rx.buffer = some (len :: body) → body.length ≠ len.toNat :=
  ⟨by decide, by decide, by decide, by decide, by decide, by decide, by decide, by decide, by decide,
    fun _ _ h => by cases h⟩

theorem witness_ReadingReports :
    (opened.free ∧ opened.part.state ≠ .starting ∧ State.reset.free)
    ∧ ((64 : Nat) ≤ 64 ∧ opened.account 16 = none ∧ opened.account 17 = some account17 ∧ (4 : Nat) ≤ 4)
    ∧ ((opened.lane 0).docket = none ∧ ((withDocket planned).lane 0).docket = some planned)
    ∧ ((24 : Nat) ≤ 24 ∧ (23 : Nat) < 24 ∧ (65535 : Nat) ≠ 0 ∧ ∀ r ∈ opened.settlements, r.docket ≠ 65535)
    ∧ (let r := settlementRecord 0 paying account17 (computeSettlement types26 500 account17 .cash paying.runs) (some 5);
      (State.storeSettlement r opened).settlements = [] ++ r :: [] ∧ r.docket = 331)
    ∧ ((2 : Nat) ≤ 2 ∧ (16 : Nat) ≤ 16 ∧ (1 : Nat) < 2 ∧ (15 : Nat) < 16)
    ∧ (serving .serving .cash id).bayServes 0 (some served) ∧ opened.bayServes 0 none :=
  ⟨⟨opened_free, by decide, rfl, rfl⟩, by decide, by decide, by decide, ⟨rfl, rfl⟩, by decide, serving_serves _ _, rfl, by simp⟩

/-! ### Witnesses of the lines and of the idle tick -/

/-- A state on a tick. -/
def clock (t : Tick) (s : State) : State := { s with tick := t }

/-- Whether a timer runs and its tick has come. -/
def due (s : State) (x : Option Tick) : Bool := x.any s.reached

/-- Lane 0 in a state on tick 40000, its jam timers due on ticks `a` and `b`. -/
def jams (st : LaneState) (a b : Tick) : State := clock 40000 (lane0 st fun l => { l with jamA := some a, jamB := some b })

/-- Bay 0 serving on tick 40000, its service changed by `f`. -/
def served40000 (f : Service → Service) : State :=
  clock 40000 (bay0 .serving .cash fun y => { y with service := f Service.idle })

theorem witness_IdleStepIsOneTick :
    State.reset.pending = []
    ∧ (due opened (opened.lane 0).jamA = false ∧ due opened (opened.lane 0).jamB = false
      ∧ (due (jams .off 40000 40001) (some 40000) = true ∧ due (jams .off 40000 40001) (some 40001) = false)
      ∧ (((jams .running 40000 40000).lane 0).state = .running ∧ ((jams .off 40000 40000).lane 0).state = .off)
      ∧ due (jams .running 40001 40000) ((jams .running 40001 40000).lane 0).jamB = true)
    ∧ ((∀ st ∈ [LaneState.running, .homing],
        let s := clock 20 (lane0 st fun l => { l with
          diverter := { l.diverter with step := some ⟨.accept, 20⟩, home := Line.steady false, homeTick := 20 } });
        (s.lane 0).state = st ∧ due s ((s.lane 0).diverter.step.map MotorStep.due) = true
          ∧ (s.lane 0).diverter.home = Line.steady false ∧ (s.lane 0).diverter.homeTick = s.tick)
      ∧ due opened ((opened.lane 0).diverter.step.map MotorStep.due) = false)
    ∧ (let s := clock 22160 (running [] [placed]);
      (s.lane 0).state = .running ∧ (s.lane 0).awaitingArrival 41 = some placed ∧ due s placed.gateArrival = true
        ∧ 41 ∈ s.dueArrivals 0 ∧ (opened.lane 0).awaitingArrival 41 = none)
    ∧ (let p := { placed with committed := true }; let s := clock 22160 (running [] [p]);
      (s.lane 0).travel = [] ++ p :: [] ∧ p.seq = 41 ∧ p.committed = true ∧ due s p.gateClear = true ∧ 41 ∈ s.dueClears 0)
    ∧ (let s := clock 480000 (quiet .opened (some 480000) none []); let u := clock 480000 (quiet .quiet none (some 480000) []);
      due s (s.lane 0).quietTimer = true ∧ due s (s.lane 0).autoCloseTimer = false ∧ s.settings.autoClose ≤ 60
        ∧ due u (u.lane 0).quietTimer = false ∧ due u (u.lane 0).autoCloseTimer = true)
    ∧ ((∀ st ∈ [BayState.powering, .starting], let s := clock 800 (bay0 st .cash fun y => { y with powerTimer := some 800 });
        (s.bay 0).state = st ∧ due s (s.bay 0).powerTimer = true ∧ (s.bay 0).modReady = Line.steady false
          ∧ (s.bay 0).modFault = Line.steady false)
      ∧ due opened (opened.bay 0).powerTimer = false)
    ∧ (due (served40000 id) (some 40000) = true ∧ due (served40000 id) none = false
      ∧ ((served40000 fun v => { v with pulse := some 40000 }).bay 0).service.pulse = some 40000
      ∧ ((served40000 fun v => { v with nextUnit := some 40000 }).bay 0).service.nextUnit = some 40000
      ∧ ((served40000 fun v => { v with unitTimer := some 40000 }).bay 0).service.unitTimer = some 40000
      ∧ ((served40000 fun v => { v with printTimer := some 40000 }).bay 0).service.printTimer = some 40000) := by decide

/-- A line whose next sample takes its level from `!b` to `b`. -/
def rising (b : Bool) : Line := ⟨b, b, !b, !b, !b⟩

theorem witness_InputLinesAreFiltered :
    ((rising true).level = false ∧ (rising true).sample.level = true ∧ (rising false).sample.level = false)
    ∧ ((DamageInput.steady true).line.sample.level = (DamageInput.steady true).pressed
      ∧ (⟨Line.steady true, false, 79⟩ : DamageInput).line.sample.level ≠ false ∧ 79 < 80 ∧ 80 ≤ 80 ∧ 82 ≤ 82 ∧ 201 ≤ 201)
    ∧ ((⟨true, true, 0⟩ : SeatContact).pin = true ∧ (⟨true, false, 199⟩ : SeatContact).pin ≠ false ∧ 199 < 200 ∧ 200 ≤ 200)
    ∧ (∀ on ∈ [true, false], let s := opened.modLane 0 fun l => { l with beamA := rising on };
      (s.lane 0).sample.beamA.level ≠ (s.lane 0).beamA.level ∧ (s.lane 0).sample.beamB.level = (s.lane 0).beamB.level
        ∧ (s.lane 0).beamA.level = !on)
    ∧ (∀ on ∈ [true, false], let s := opened.modLane 0 fun l => { l with beamB := rising on };
      (s.lane 0).sample.beamB.level ≠ (s.lane 0).beamB.level ∧ (s.lane 0).sample.beamA.level = (s.lane 0).beamA.level
        ∧ (s.lane 0).beamB.level = !on)
    ∧ (let s := opened.modLane 0 fun l => { l with neck := rising true };
      (s.lane 0).neck.level = false ∧ (s.lane 0).sample.neck.level = true ∧ (s.lane 0).sample.damage.pressed = false)
    ∧ (let s := opened.modLane 0 fun l => { l with damage := ⟨Line.steady true, false, 80⟩ };
      (s.lane 0).damage.pressed = false ∧ (s.lane 0).sample.damage.pressed = true ∧ (s.lane 0).sample.neck.level = false)
    ∧ (let s := opened.modBay 0 fun y => { y with seat1 := ⟨true, false, 200⟩ };
      (s.bay 0).sample.seat1.level ≠ (s.bay 0).seat1.level ∧ (s.bay 0).sample.unitDone.level = false)
    ∧ (let s := opened.modBay 0 fun y => { y with unitDone := rising true };
      (s.bay 0).unitDone.level = false ∧ (s.bay 0).sample.unitDone.level = true
        ∧ (s.bay 0).sample.seat1.level = (s.bay 0).seat1.level ∧ (s.bay 0).sample.seat2.level = (s.bay 0).seat2.level)
    ∧ (∀ st ∈ [BayState.ready, .serving, .stopping, .starting, .vacant], ∀ r ∈ [true, false], ∀ f ∈ [true, false],
      let s := bay0 st .cash fun y => { y with modReady := Line.steady r, modFault := Line.steady f };
      (s.bay 0).state = st ∧ (s.bay 0).modReady = Line.steady r ∧ (s.bay 0).modFault = Line.steady f) :=
  ⟨by decide, by decide, by decide, by decide, by decide, by decide, by decide, by decide, by decide, by decide⟩

/-- Chapter 1, R1: two clear samples of three take the neck line back to clear, so that its next blocked level is a new edge. -/
theorem test_the_neck_line_clears :
    (match exec (.neckEdge 0 0) opened with
      | .next t => ((t.lane 0).neck.level, (t.lane 0).neck.sample.sample.level)
      | _ => (false, true)) = (true, false) := by decide

theorem witness_OutputLinesFollowTheState :
    ((∀ st ∈ [LaneState.off, .held, .homing, .running], ((lane0 st id).lane 0).state = st)
      ∧ ∀ m ∈ [DriveMode.single, .double, .half], ∃ g ∈ [Settings.default, written [.mode 0 m]], g.lanes[0].mode = m)
    ∧ ([[true, false], [false, true]][1]? = some [false, true] ∧ [(0xA7 : Byte)][0]? = some 0xA7)
    ∧ (opened.port.sending = .idle ∧ busy.port.sending = .reply [0xA7]
      ∧ (port (fun p => { p with sending := .notice [0xA7] }) opened).port.sending = .notice [0xA7])
    ∧ ((∀ j < 3, (char 0xA7).getLsbD j = false) ∧ (∀ k < 8, ∀ j < 3, (char 0xA7).getLsbD (3 * (k + 1) + j) = (0xA7 : Byte).getLsbD k)
      ∧ ∀ j < 3, (char 0xA7).getLsbD (27 + j) = true)
    ∧ (let high (c : Cells) (k : Nat) : Bool := 2 ≤ ([0, 1, 2].filter fun j => c.getLsbD (3 * k + j)).length;
      high 3 0 = true ∧ (high 1 0 = false ∧ high 1 9 = false) ∧ high 0x18000001 0 = false ∧ high 0x18000001 9 = true) := by decide

/-- R5: each bit is the majority of three samples, so one wrong sample in every bit changes nothing. -/
theorem test_a_noisy_character_is_read : readCharacter (char 0xA7 ^^^ 0x09249249) = .byte 0xA7 := by decide

/-- Chapter 10, R160: a character has a low start bit, the data bits, least significant first, and a high stop bit, and the line
is high before the next frame. -/
theorem test_txd_of_a_reply :
    (List.range 12).map busy.txd = [false, true, true, true, false, false, true, false, true, true, true, true] := by decide

theorem witness_StepKeepsAttentionOnce : AttentionOnce (attending (.lane 3)) := by unfold AttentionOnce; decide

theorem none17 : ∀ k : Fin 64, k ≠ 17 → opened.accounts[k] = none := by decide

theorem witness_StepKeepsAccountsSound : AccountsSound opened := by
  have only : ∀ (i : Nat) (a : Account), opened.account i = some a → i = 17 ∧ a = account17 := by
    intro i a h
    by_cases hi : i < 64
    · have : ∀ j : Fin 64, ∀ a : Account, opened.accounts[j] = some a → j.val = 17 ∧ a = account17 := by
        intro j a hj
        by_cases h17 : j = 17
        · subst h17
          exact ⟨rfl, (Option.some.inj hj).symm⟩
        · rw [none17 j h17] at hj
          cases hj
      refine this ⟨i, hi⟩ a ?_
      simpa [State.account, hi] using h
    · simp [State.account, Vector.getElem?_eq_none (Nat.le_of_not_lt hi)] at h
  constructor
  · intro i a h
    rw [(only i a h).2]
    exact ⟨by decide, by decide, by decide, by decide, by decide, by decide⟩
  · intro i j a b ha hb _
    rw [(only i a ha).1, (only j b hb).1]

theorem default_consistent : TableConsistent (Vector.replicate 24 TypeEntry.default) := by unfold TableConsistent; decide

theorem witness_StepKeepsTypesSound : TypesSound saving := by
  refine ⟨types26_consistent, default_consistent, default_consistent, ?_⟩
  intro v h
  cases h
  exact types26_consistent

theorem witness_StepKeepsLanesSound : LanesSound (running [atB, behind] [placed]) := by
  intro i
  have others : ∀ l : Lane, l.state = .off → l.holds = HoldSet.empty → l.span = [] → l.travel = [] → l.docket = none →
      l.Sound := by
    intro l h1 h2 h3 h4 h5
    simp [Lane.Sound, Lane.notClosing, h1, h2, h3, h4, h5]
  by_cases h : i = 0
  · subst h
    exact ⟨by decide, by decide, by decide, by decide, fun h => absurd rfl h, by decide, by decide⟩
  · have : ∀ i : LaneId, i ≠ 0 → ((running [atB, behind] [placed]).lane i).state = .off
        ∧ ((running [atB, behind] [placed]).lane i).holds = HoldSet.empty
        ∧ ((running [atB, behind] [placed]).lane i).span = [] ∧ ((running [atB, behind] [placed]).lane i).travel = []
        ∧ ((running [atB, behind] [placed]).lane i).docket = none := by decide
    obtain ⟨h1, h2, h3, h4, h5⟩ := this i h
    exact others _ h1 h2 h3 h4 h5

theorem witness_StepKeepsDocketsSound : DocketsSound (withDocket planned) := by
  have : (withDocket planned).dockets = [planned] := by decide
  intro d h
  rw [this, List.mem_singleton] at h
  rw [h]
  exact planned_sound

theorem witness_StepKeepsCommitmentsCounted :
    CommitmentsCounted (queue (fun q => { q with commitments := 2, orders := [order] }) (withDocket planned)) := by
  unfold CommitmentsCounted
  decide

theorem witness_StepKeepsPressureSound : PressureSound (queue (fun q => { q with commitments := 11 }) opened) := by
  refine ⟨⟨by decide, by decide⟩, ⟨by decide, by decide⟩, ⟨by decide, by decide⟩, ?_, by decide, by decide, by decide⟩
  intro v h
  cases h

end Sys2Proof.Tests
end

