-- ==== Sys2Proof/Proofs/TypeRead.lean ====
section
/-! PROOF. TYPE_READ: what the type table answers (R28), the record on the line (R173), and the command's whole effect. -/

namespace Sys2Proof.Machine

/-! ### The bits of a flag byte (R172) -/

theorem bitsByte_nil : bitsByte [] = 0 := rfl

theorem bitsByte_cons (b : Bool) (bs : List Bool) : bitsByte (b :: bs) = b.toNat + 2 * bitsByte bs := by
  cases b <;> rfl

/-! ### The type-entry record (R173) -/

/-- The record in its 18 bytes: index, flags, owner, and each number in the bytes R173 gives it, low byte first. -/
theorem typeEntryBytes_eq (index : Nat) (e : TypeEntry) :
    typeEntryBytes index e =
      [byteOf index, byteOf (e.enabled.toNat + 2 * e.keg.toNat), byteOf e.owner, byteOf e.tag, byteOf (e.tag / 256),
        byteOf e.lengthMin, byteOf (e.lengthMin / 256), byteOf e.lengthMax, byteOf (e.lengthMax / 256), byteOf e.slots,
        byteOf e.deposit, byteOf (e.deposit / 256), byteOf e.bottleDeposit, byteOf (e.bottleDeposit / 256),
        byteOf e.damagedPermille, byteOf (e.damagedPermille / 256), byteOf e.surplusPermille,
        byteOf (e.surplusPermille / 256)] := by
  have flags : bitsByte [e.enabled, e.keg] = e.enabled.toNat + 2 * e.keg.toNat := by
    simp only [bitsByte_cons, bitsByte_nil, Nat.mul_zero, Nat.add_zero]
  simp only [typeEntryBytes, encodeTypeEntry, le2, flags, List.cons_append, List.nil_append]

/-! ### What the type table answers (R28) -/

theorem decideTypeRead_of_ge {index : Nat} (s : State) (h : 24 ≤ index) : decideTypeRead index s = refuse s .range :=
  if_neg (Nat.not_lt.2 h)

theorem decideTypeRead_of_lt {index : Nat} (s : State) (h : index < 24) :
    decideTypeRead index s = answerOk s (typeEntryBytes index s.types[index]) := by
  rw [decideTypeRead, if_pos h, s.type_eq index h]

/-! ### A request that only answers (R164, R165) -/

/-- A request the part state takes, with the dispatcher free, whose block leaves the state as it is: only its reply is new. -/
theorem State.request_answered {r : Request} {s : State} {st : Status} {payload : List Byte} (hf : s.free)
    (hl : Request.lengthGood r = true) (ht : s.part.state.takes r = true)
    (hd : decideRequest r s.heard = (s.heard, ⟨st, payload⟩)) : s.request r = s.heard.answered r st payload := by
  rw [State.request_free hf hl ht, hd]
  rfl

/-- TYPE_READ outside STARTING with the dispatcher free: what the type table answers is the whole effect. No docket and no save
is consulted. -/
theorem exec_typeRead_of_answer {index : Nat} {s : State} {st : Status} {payload : List Byte} (hf : s.free)
    (hs : s.part.state ≠ .starting) (hd : decideTypeRead index s.heard = (s.heard, ⟨st, payload⟩)) :
    exec (.typeRead index) s = .next (s.heard.answered (.typeRead index) st payload).transmit := by
  have taken : s.part.state.takes (.typeRead index) = true := PartState.takes_of hs nofun nofun nofun nofun
  have request : s.request (.typeRead index) = s.heard.answered (.typeRead index) st payload :=
    State.request_answered hf rfl taken hd
  calc exec (.typeRead index) s = finish (s.request (.typeRead index)) := rfl
    _ = .next (s.heard.answered (.typeRead index) st payload).transmit := by rw [request]; rfl

/-- Settles O30: an index outside the table is refused; within it the answer is the entry's record, written out in bytes. -/
theorem typeReadReturnsTheEntry : Obligations.TypeReadReturnsTheEntry := by
  intro index s hf hs
  refine ⟨fun outside => ?range, fun inside => ?entry⟩
  case range => exact exec_typeRead_of_answer hf hs (decideTypeRead_of_ge s.heard outside)
  case entry =>
    have answer := exec_typeRead_of_answer hf hs (decideTypeRead_of_lt s.heard inside)
    rw [typeEntryBytes_eq] at answer
    exact answer

end Sys2Proof.Machine
end

