-- ==== Sys2Proof/Proofs/AccountWrites.lean ====
section
/-! PROOF. ACCT_WRITE and ISSUE: the refusal tables of R100 and R107 in their order, the slot an accepted ACCT_WRITE leaves
(R101), and the count an accepted ISSUE leaves (R107). -/

namespace Sys2Proof.Machine

/-! ### A slot of the account table (R97) -/

theorem State.account_eq (s : State) {a : Nat} (h : a < 64) : s.account a = s.accounts[a] := by
  rw [State.account, Vector.getElem?_eq_getElem h, Option.join_some]

theorem setIfInBounds_eq_set {α : Type} {n i : Nat} (xs : Vector α n) (x : α) (h : i < n) :
    xs.setIfInBounds i x = xs.set i x h := by
  ext j hj
  rw [Vector.getElem_setIfInBounds hj, Vector.getElem_set h hj]

/-! ### What ACCT_WRITE examines (R100) -/

/-- R100's list of pairs: no type and no count out of its range, and no type twice. -/
theorem pairsGood_iff (ps : List (Nat × Nat)) :
    pairsGood ps = true ↔ ps.length ≤ 24 ∧ (∀ p ∈ ps, p.1 < 24 ∧ 1 ≤ p.2 ∧ p.2 ≤ 65535) ∧ (ps.map Prod.fst).Nodup := by
  simp only [pairsGood, Bool.and_eq_true, decide_eq_true_eq, List.all_eq_true, and_assoc]
  rfl

/-- R100's well-formed record. Its bound on paid today follows from the day cap's. -/
theorem recordGood_iff (r : AccountData) :
    recordGood r = true ↔ r.state = 0 ∨ (r.state = 1 ∨ r.state = 2) ∧ 1 ≤ r.number ∧ r.number ≤ 4294967295
      ∧ r.dayCap ≤ 99999999 ∧ r.credit ≤ 99999999 ∧ r.paidToday ≤ r.dayCap ∧ r.pairs.length ≤ 24
      ∧ (∀ p ∈ r.pairs, p.1 < 24 ∧ 1 ≤ p.2 ∧ p.2 ≤ 65535) ∧ (r.pairs.map Prod.fst).Nodup := by
  have paid : r.dayCap ≤ 99999999 → r.paidToday ≤ r.dayCap → r.paidToday ≤ 99999999 := fun cap under => under.trans cap
  simp only [recordGood, Bool.or_eq_true, Bool.and_eq_true, decide_eq_true_eq, pairsGood_iff, and_assoc]
  rw [Config.maxAmount]
  tauto

/-- Step 2 of R100: another slot that is not EMPTY holds the number. -/
theorem State.numberTaken_iff (s : State) (index number : Nat) :
    s.numberTaken index number = true ↔
      ∃ j : Fin 64, j.val ≠ index ∧ s.accounts[j].any (fun a => decide (a.number = number)) = true := by
  have holds (x : Option Account) : x.map Account.number = some number ↔ x.any (fun a => decide (a.number = number)) = true := by
    cases x <;> simp
  simp only [State.numberTaken, List.any_eq_true, Bool.and_eq_true, decide_eq_true_eq, holds, List.mem_zipIdx_iff_getElem?,
    Vector.getElem?_toList]
  constructor
  · rintro ⟨⟨x, j⟩, slot, other, same⟩
    obtain ⟨hj, here⟩ := Vector.getElem?_eq_some_iff.1 slot
    exact ⟨⟨j, hj⟩, other, (congrArg _ here).trans same⟩
  · rintro ⟨j, other, same⟩
    exact ⟨(s.accounts[j], j.val), Vector.getElem?_eq_getElem j.isLt, other, same⟩

/-- Step 3 of R100: the record is EMPTY or its number is not the slot's. -/
theorem changesHolder_iff (s : State) (r : AccountData) :
    changesHolder s r = true ↔
      r.state = 0 ∨ (s.account r.index).any (fun a => decide (a.number = r.number)) = false := by
  cases h : s.account r.index <;> simp [changesHolder, h]

/-- R100's table: the status of the first condition that holds. -/
def acctWriteRefusal (r : AccountData) (s : State) : Option Status :=
  if 64 ≤ r.index ∨ ¬ recordGood r = true then some .range
  else if r.state ≠ 0 ∧ s.numberTaken r.index r.number = true then some .duplicate
  else if s.referenced r.index = true ∧ changesHolder s r = true then some .inUse
  else none

/-- ACCT_WRITE is R100's table, and R101's slot when the table refuses nothing. -/
theorem decideAcctWrite_eq (r : AccountData) (s : State) :
    decideAcctWrite r s = (acctWriteRefusal r s).elim
      (answerOk { s with accounts := s.accounts.setIfInBounds r.index (slotOf r) } (b1 r.index)) (refuse s) := by
  simp only [decideAcctWrite, acctWriteRefusal, Nat.not_lt]
  split_ifs <;> rfl

/-- A record that R100's table lets pass, unless EMPTY, lists no type twice. -/
theorem nodup_of_acctWriteRefusal_eq_none {r : AccountData} {s : State} (h : acctWriteRefusal r s = none)
    (filled : r.state ≠ 0) : (r.pairs.map Prod.fst).Nodup := by
  have good : recordGood r = true := by
    by_contra bad
    rw [acctWriteRefusal, if_pos (Or.inr bad)] at h
    exact Option.some_ne_none _ h
  obtain empty | ⟨-, -, -, -, -, -, -, -, nodup⟩ := (recordGood_iff r).1 good
  · exact absurd empty filled
  · exact nodup

/-! ### The slot an accepted ACCT_WRITE leaves (R101) -/

/-- Writing pairs of different types into counts: a listed type takes its pair's count, and every other keeps its own. -/
theorem getElem_foldl_setIfInBounds {t : Nat} (h : t < 24) :
    ∀ (ps : List (Nat × Nat)) (o : Vector Nat 24), (ps.map Prod.fst).Nodup →
      (ps.foldl (fun o p => o.setIfInBounds p.1 p.2) o)[t] = ((ps.find? (·.1 = t)).map Prod.snd).getD o[t]
  | [], _, _ => rfl
  | p :: ps, o, nodup => by
    obtain ⟨fresh, rest⟩ := List.nodup_cons.1 nodup
    rw [List.foldl_cons, getElem_foldl_setIfInBounds h ps _ rest, Vector.getElem_setIfInBounds h]
    by_cases listed : p.1 = t
    · have absent : ps.find? (·.1 = t) = none := by
        refine List.find?_eq_none.2 fun q hq same => fresh ?_
        exact List.mem_map.2 ⟨q, hq, (of_decide_eq_true same).trans listed.symm⟩
      simp [listed, absent]
    · simp [listed]

theorem outstandingOf_eq {ps : List (Nat × Nat)} (nodup : (ps.map Prod.fst).Nodup) :
    outstandingOf ps = Vector.ofFn fun t : Fin 24 => ((ps.find? (·.1 = t.val)).map Prod.snd).getD 0 := by
  ext t ht
  rw [outstandingOf, getElem_foldl_setIfInBounds ht ps _ nodup, Vector.getElem_replicate, Vector.getElem_ofFn]

/-- R101's slot: EMPTY, or the record's fields with the counts its list gives. -/
theorem slotOf_eq {r : AccountData} (nodup : r.state ≠ 0 → (r.pairs.map Prod.fst).Nodup) :
    slotOf r = if r.state = 0 then none else some ⟨decide (r.state = 2), r.number, r.cash, r.voucher, r.dayCap, r.paidToday,
      r.credit, Vector.ofFn fun t : Fin 24 => ((r.pairs.find? (·.1 = t.val)).map Prod.snd).getD 0⟩ := by
  rw [slotOf]
  split
  · rfl
  next filled => rw [outstandingOf_eq (nodup filled)]

/-! ### What ISSUE answers (R107) -/

theorem decideIssue_of_out_of_range {account type count : Nat} (s : State)
    (h : 64 ≤ account ∨ 24 ≤ type ∨ count = 0 ∨ 65535 < count) : decideIssue account type count s = refuse s .range :=
  if_pos (by omega)

/-! Past R107's first condition the slot decides, then the type's entry. -/

section

variable {account type count : Nat} {s : State} (ha : account < 64) (ht : type < 24) (low : 1 ≤ count) (high : count ≤ 65535)

include ha ht low high

theorem decideIssue_of_empty (empty : s.accounts[account] = none) :
    decideIssue account type count s = refuse s .notFound := by
  rw [decideIssue, if_neg (by omega), s.account_eq ha, empty]

theorem decideIssue_of_disabled {a : Account} (held : s.accounts[account] = some a) (disabled : s.types[type].enabled = false) :
    decideIssue account type count s = refuse s .range := by
  rw [decideIssue, if_neg (by omega), s.account_eq ha, held, s.type_eq type ht, disabled]
  rfl

/-- An ISSUE of an enabled type to an account raises that type's count alone, up to 65535, and answers it. -/
theorem decideIssue_of_enabled {a : Account} (held : s.accounts[account] = some a) (enabled : s.types[type].enabled = true) :
    decideIssue account type count s =
      answerOk { s with accounts := s.accounts.set account (some { a with
        outstanding := a.outstanding.set type (min 65535 (a.outstanding[type] + count)) ht }) ha }
        (le2 (min 65535 (a.outstanding[type] + count))) := by
  have old : a.count type = a.outstanding[type] := by
    rw [Account.count, Vector.getElem?_eq_getElem ht, Option.getD_some]
  have raised (n : Nat) : s.modAccount account (fun a => { a with outstanding := a.outstanding.setIfInBounds type n })
      = { s with accounts := s.accounts.set account (some { a with outstanding := a.outstanding.set type n ht }) ha } := by
    rw [State.modAccount, s.account_eq ha, held, Option.map_some, setIfInBounds_eq_set _ _ ha,
      setIfInBounds_eq_set _ _ ht]
  rw [decideIssue, if_neg (by omega), s.account_eq ha, held, s.type_eq type ht, enabled]
  simp only [raised, old, satAdd, Config.wordMax]
  rfl

end

/-! ### The requests' whole effect (R164, R165, R170) -/

/-- A request every part state but STARTING takes, with the dispatcher free: the state its block leaves, its reply, and the
transmitter's choice. -/
theorem finish_request_of_decided {r : Request} {s t : State} {st : Status} {payload : List Byte} (hf : s.free)
    (hl : Request.lengthGood r = true) (ht : s.part.state.takes r = true)
    (hd : decideRequest r s.heard = (t, ⟨st, payload⟩)) :
    finish (s.request r) = .next (t.answered r st payload).transmit := by
  rw [State.request_free hf hl ht, hd]
  rfl

theorem exec_acctWrite_of_decided {r : AccountData} {s t : State} {st : Status} {payload : List Byte} (hf : s.free)
    (hs : s.part.state ≠ .starting) (hd : decideAcctWrite r s.heard = (t, ⟨st, payload⟩)) :
    exec (.acctWrite r) s = .next (t.answered (.acctWrite r) st payload).transmit :=
  finish_request_of_decided hf rfl (PartState.takes_of hs nofun nofun nofun nofun) hd

theorem exec_issue_of_decided {account type count : Nat} {s t : State} {st : Status} {payload : List Byte} (hf : s.free)
    (hs : s.part.state ≠ .starting) (hd : decideIssue account type count s.heard = (t, ⟨st, payload⟩)) :
    exec (.issue account type count) s = .next (t.answered (.issue account type count) st payload).transmit :=
  finish_request_of_decided hf rfl (PartState.takes_of hs nofun nofun nofun nofun) hd

/-- Settles O37: the statement's refusal is R100's table read condition by condition; each row of R107's table is one case of
ISSUE. -/
theorem accountsAreWritten : Obligations.AccountsAreWritten := by
  refine ⟨fun r s hf hs => ?acctWrite, fun account type count s hf hs => ?issue⟩
  case acctWrite =>
    intro good named refused
    have table : refused = acctWriteRefusal r s.heard :=
      if_congr (or_congr_right (not_congr (recordGood_iff r).symm)) rfl <|
      if_congr (and_congr_right' (s.numberTaken_iff r.index r.number).symm) rfl <|
      if_congr (and_congr_right' (changesHolder_iff s r).symm) rfl rfl
    have decided := decideAcctWrite_eq r s.heard
    rw [← table] at decided
    refine ⟨fun st refusal => ?refused, fun h accepted => ?accepted⟩
    case refused =>
      rw [refusal] at decided
      exact exec_acctWrite_of_decided hf hs decided
    case accepted =>
      have nodup := nodup_of_acctWriteRefusal_eq_none (table.symm.trans accepted)
      rw [accepted, slotOf_eq nodup, setIfInBounds_eq_set _ _ h] at decided
      exact exec_acctWrite_of_decided hf hs decided
  case issue =>
    refine ⟨fun outside => ?range, fun ha ht low high => ⟨fun empty => ?notFound, fun a held => ⟨fun disabled => ?disabled,
      fun enabled => ?accepted⟩⟩⟩
    case range => exact exec_issue_of_decided hf hs (decideIssue_of_out_of_range s.heard outside)
    case notFound => exact exec_issue_of_decided hf hs (decideIssue_of_empty (s := s.heard) ha ht low high empty)
    case disabled => exact exec_issue_of_decided hf hs (decideIssue_of_disabled (s := s.heard) ha ht low high held disabled)
    case accepted => exact exec_issue_of_decided hf hs (decideIssue_of_enabled (s := s.heard) ha ht low high held enabled)

end Sys2Proof.Machine
end

