-- ==== Sys2Proof/Proofs/Settlement.lean ====
section
/-! PROOF. Chapter 7's computation: the lines of a settlement and its credit (R113 to R116), the applied method (R117), and the
split between payout and credit (R118, R119). -/

namespace Sys2Proof.Machine

/-! ### The lines and the credit (R113 to R116) -/

section

variable (types : Vector TypeEntry 24) (unit : Nat) (a : Account) (requested : Method) (runs : List Run)

/-- The types of a run list as indexes of the type table, rising. -/
def tableTypesOf (runs : List Run) : List (Fin 24) := (List.finRange 24).filter fun t => runs.any fun r => r.key.type = t.val

theorem typesOf_eq : typesOf runs = (tableTypesOf runs).map Fin.val := by
  rw [typesOf, ← List.map_coe_finRange_eq_range, List.filter_map]
  rfl

/-- The counts of R114 for one type of the table. -/
def matchedOf (t : Fin 24) : Matched := matchReturns a.outstanding[t] (totalOf runs t .good) (totalOf runs t .damaged)

/-- A type's subtotal before it is bounded (R115). -/
def exactSubtotal (t : Fin 24) : Nat := priceLines types[t] (matchedOf a runs t) (bottlesOf runs t)

/-- A settlement's line for one type of the table (R113 to R115). -/
def lineOf (t : Fin 24) : SettlementLine :=
  let m := matchedOf a runs t
  ⟨t, totalOf runs t .good, totalOf runs t .damaged, bottlesOf runs t, m.good + m.damaged, m.surplusGood + m.surplusDamaged,
    min Config.maxAmount (exactSubtotal types a runs t)⟩

theorem bounded_eq (x : Nat) : bounded x = min Config.maxAmount x := Nat.min_comm x Config.maxAmount

theorem Account.count_eq (t : Fin 24) : a.count t = a.outstanding[t] := by
  rw [Account.count, Vector.getElem?_eq_getElem t.isLt, Option.getD_some]
  rfl

/-- For a type of the table the two table reads of `settleType` find their entries. -/
theorem settleType_eq (t : Fin 24) :
    settleType types a runs t = (lineOf types a runs t, decide (Config.maxAmount < exactSubtotal types a runs t)) := by
  have entry : (types[t.val]?).getD TypeEntry.default = types[t] := by
    rw [Vector.getElem?_eq_getElem t.isLt, Option.getD_some]
    rfl
  simp only [settleType, entry, a.count_eq, bounded_eq]
  rfl

theorem settleTypes_eq : settleTypes types a runs =
    (tableTypesOf runs).map fun t => (lineOf types a runs t, decide (Config.maxAmount < exactSubtotal types a runs t)) := by
  rw [settleTypes, typesOf_eq, List.map_map]
  exact List.map_congr_left fun t _ => settleType_eq types a runs t

theorem computeSettlement_lines :
    (computeSettlement types unit a requested runs).lines = (tableTypesOf runs).map (lineOf types a runs) := by
  simp only [computeSettlement, settleTypes_eq, List.map_map]
  rfl

theorem exactCredit_lines : exactCredit (computeSettlement types unit a requested runs).lines =
    ((tableTypesOf runs).map fun t => min Config.maxAmount (exactSubtotal types a runs t)).sum := by
  rw [exactCredit, computeSettlement_lines, List.map_map]
  rfl

theorem computeSettlement_credit : (computeSettlement types unit a requested runs).credit =
    min Config.maxAmount (exactCredit (computeSettlement types unit a requested runs).lines) := bounded_eq _

/-- SATURATED is one flag for every subtotal and the sum (R116). -/
theorem computeSettlement_saturated_iff : (computeSettlement types unit a requested runs).flags.saturated = true ↔
    (∃ t ∈ tableTypesOf runs, Config.maxAmount < exactSubtotal types a runs t)
      ∨ Config.maxAmount < exactCredit (computeSettlement types unit a requested runs).lines := by
  have clamped : (settleTypes types a runs).any Prod.snd = true ↔
      ∃ t ∈ tableTypesOf runs, Config.maxAmount < exactSubtotal types a runs t := by
    simp only [settleTypes_eq, List.any_map, List.any_eq_true, Function.comp_apply, decide_eq_true_eq]
  rw [← clamped, ← decide_eq_true_iff (p := Config.maxAmount < _), ← Bool.or_eq_true]
  rfl

end

/-- Settles O39: the statement's counts and amounts are those of `lineOf` and `exactSubtotal` written out. -/
theorem settlementLines : Obligations.SettlementLines := by
  intro types unit a requested runs
  have sum := exactCredit_lines types unit a requested runs
  refine ⟨computeSettlement_lines types unit a requested runs, ?credit, ?saturated⟩
  case credit => exact (computeSettlement_credit types unit a requested runs).trans (congrArg _ sum)
  case saturated =>
    have flag := computeSettlement_saturated_iff types unit a requested runs
    rw [sum] at flag
    exact flag

/-! ### The applied method (R117) -/

/-- The account permits the method, CASH or VOUCHER. -/
abbrev Account.permitsMethod (a : Account) (m : Method) : Prop := m = .cash ∧ a.cash = true ∨ m = .voucher ∧ a.voucher = true

theorem Method.exists_pay?_of_ne_account {m : Method} (h : m ≠ .account) : ∃ p, m.pay? = some p := by
  cases m with
  | cash => exact ⟨_, rfl⟩
  | voucher => exact ⟨_, rfl⟩
  | account => exact absurd rfl h

theorem Account.permits_iff (a : Account) {m : Method} {p : PayMethod} (h : m.pay? = some p) :
    a.permits p = true ↔ a.permitsMethod m := by
  cases m with
  | cash => cases h; simp [Account.permits, Account.permitsMethod]
  | voucher => cases h; simp [Account.permits, Account.permitsMethod]
  | account => cases h

/-- R117 in one line: the applied method, the suspension's flag and the method's flag. -/
theorem appliedMethod_eq (m : Method) (a : Account) : appliedMethod m a =
    (if m ≠ .account ∧ a.suspended = false ∧ a.permitsMethod m then m else .account,
      decide (m ≠ .account ∧ a.suspended = true), decide (m ≠ .account ∧ a.suspended = false ∧ ¬ a.permitsMethod m)) := by
  by_cases account : m = .account
  · simp [account, appliedMethod, Method.pay?]
  · obtain ⟨p, pay⟩ := Method.exists_pay?_of_ne_account account
    cases suspended : a.suspended
    case true => simp [appliedMethod, pay, account, suspended]
    case false =>
      by_cases permitted : a.permitsMethod m <;>
        simp [appliedMethod, pay, account, suspended, permitted, a.permits_iff pay]

/-! ### The split (R118, R119) -/

theorem PayMethod.round_le (m : PayMethod) (unit x : Nat) : m.round unit x ≤ x := by
  cases m with
  | cash => exact Nat.sub_le x (x % unit)
  | voucher => exact le_rfl

/-- Rounding a cash amount gives the greatest whole multiple of CASH_UNIT that is not above it. -/
theorem PayMethod.le_round_cash {unit x y : Nat} (multiple : unit ∣ y) (under : y ≤ x) : y ≤ PayMethod.cash.round unit x := by
  obtain ⟨k, rfl⟩ := multiple
  rcases Nat.eq_zero_or_pos unit with rfl | positive
  · simp
  · calc unit * k ≤ unit * (x / unit) := Nat.mul_le_mul_left unit ((Nat.le_div_iff_mul_le positive).2 (Nat.mul_comm k unit ▸ under))
      _ = x - x % unit := Nat.mul_div_self_eq_mod_sub_self

/-- The split of a credit that is not paid (R118). -/
theorem splitCredit_of_account {m : Method} (h : m = .account) (a : Account) (unit c : Nat) :
    splitCredit m a unit c = ⟨0, false, false⟩ := by
  rw [h]
  rfl

/-- The split of a credit that is paid: R119's amount rounded as the method pays it. -/
theorem splitCredit_of_pay {m : Method} {p : PayMethod} (h : m.pay? = some p) (a : Account) (unit c : Nat) :
    splitCredit m a unit c =
      let p0 := min c (a.dayCap - a.paidToday)
      ⟨p.round unit p0, decide (a.dayCap - a.paidToday < c), decide (p.round unit p0 < p0)⟩ := by
  rw [splitCredit, h]

section

variable (types : Vector TypeEntry 24) (unit : Nat) (a : Account) (requested : Method) (runs : List Run)

theorem computeSettlement_applied :
    let c := computeSettlement types unit a requested runs
    (c.applied, c.flags.suspendedDowngrade, c.flags.methodDowngrade) = appliedMethod requested a := rfl

theorem computeSettlement_split :
    let c := computeSettlement types unit a requested runs
    (⟨c.payout, c.flags.capLimited, c.flags.rounded⟩ : Split) = splitCredit c.applied a unit c.credit := rfl

theorem computeSettlement_posted :
    let c := computeSettlement types unit a requested runs
    c.posted = c.credit - c.payout := rfl

theorem computeSettlement_creditSaturated_iff :
    let c := computeSettlement types unit a requested runs
    c.flags.creditSaturated = true ↔ Config.maxAmount < a.credit + c.posted := decide_eq_true_iff

variable {types unit a requested runs}

theorem computeSettlement_of_account (h : (computeSettlement types unit a requested runs).applied = .account) :
    let c := computeSettlement types unit a requested runs
    c.payout = 0 ∧ c.flags.capLimited = false ∧ c.flags.rounded = false :=
  Split.mk.inj ((computeSettlement_split types unit a requested runs).trans (splitCredit_of_account h a unit _))

theorem computeSettlement_of_pay {p : PayMethod} (h : (computeSettlement types unit a requested runs).applied.pay? = some p) :
    let c := computeSettlement types unit a requested runs
    let p0 := min c.credit (a.dayCap - a.paidToday)
    c.payout = p.round unit p0 ∧ c.flags.capLimited = decide (a.dayCap - a.paidToday < c.credit)
      ∧ c.flags.rounded = decide (p.round unit p0 < p0) :=
  Split.mk.inj ((computeSettlement_split types unit a requested runs).trans (splitCredit_of_pay h a unit _))

end

/-- Settles O40: the applied method is R117's table, and each clause of the split is one case of R118 and R119. -/
theorem settlementSplit : Obligations.SettlementSplit := by
  intro types unit a requested runs c left p0 permitted
  have applied := (computeSettlement_applied types unit a requested runs).trans (appliedMethod_eq requested a)
  simp only [Prod.mk.injEq] at applied
  obtain ⟨method, suspension, downgrade⟩ := applied
  refine ⟨fun account => ?account, fun paid => ?paid, fun voucher => ?voucher, fun cash _ => ?cash, method,
    (iff_of_eq (congrArg (· = true) suspension)).trans decide_eq_true_iff,
    (iff_of_eq (congrArg (· = true) downgrade)).trans decide_eq_true_iff,
    computeSettlement_creditSaturated_iff types unit a requested runs⟩
  case account =>
    obtain ⟨payout, cap, rounded⟩ := computeSettlement_of_account account
    have posted : c.posted = c.credit := (congrArg (c.credit - ·) payout).trans (Nat.sub_zero _)
    exact ⟨payout, posted, cap, rounded⟩
  case paid =>
    obtain ⟨p, pay⟩ := Method.exists_pay?_of_ne_account paid
    obtain ⟨payout, cap, rounded⟩ := computeSettlement_of_pay pay
    have within : c.payout ≤ p0 := payout.trans_le (p.round_le unit p0)
    rw [← payout] at rounded
    exact ⟨rfl, within.trans (Nat.min_le_right _ _), cap ▸ decide_eq_true_iff, rounded ▸ decide_eq_true_iff⟩
  case voucher =>
    exact (computeSettlement_of_pay (p := .voucher) (congrArg Method.pay? voucher)).1
  case cash =>
    have payout : c.payout = PayMethod.cash.round unit p0 :=
      (computeSettlement_of_pay (p := .cash) (congrArg Method.pay? cash)).1
    rw [payout]
    exact ⟨Nat.dvd_sub_mod p0, PayMethod.round_le .cash unit p0, fun _ multiple under => PayMethod.le_round_cash multiple under⟩

end Sys2Proof.Machine
end

section
/-! PROOF. What a step keeps: the seven invariants of Safety.lean and the queue of commands. `Keeps s t` says that each of them
passes from `s` to `t`; one lemma per operation of the model gives it, and the step is their composition. -/

namespace Sys2Proof.Machine

/-! ### The commitment count as a balance (R131) -/

/-- 1 for a lane whose docket is a commitment, 0 for any other (R131). -/
def Lane.commits (l : Lane) : Nat := if l.docket.any (fun d => decide (d.method ≠ .account)) then 1 else 0

/-- The commitment count less what it counts (R131). -/
def State.balance (s : State) : Int :=
  (s.queue.commitments : Int) - s.queue.orders.length - ∑ i, ((s.lane i).commits : Int)

theorem State.lanes_toList (s : State) : s.lanes.toList = [s.lane 0, s.lane 1, s.lane 2, s.lane 3] := by
  refine List.ext_getElem (by simp) fun n hn _ => ?_
  have : n < 4 := by simpa using hn
  interval_cases n <;> simp [State.lane]

theorem length_committing_dockets (ls : List Lane) :
    ((ls.filterMap Lane.docket).filter fun d => decide (d.method ≠ .account)).length = (ls.map Lane.commits).sum := by
  induction ls with
  | nil => rfl
  | cons l ls ih =>
    cases h : l.docket with
    | none => rw [List.filterMap_cons_none h, ih]; simp [h, Lane.commits]
    | some d =>
      rw [List.filterMap_cons_some h, List.filter_cons, List.map_cons, List.sum_cons, ← ih]
      by_cases hm : d.method = .account <;> simp [hm, h, Lane.commits, Nat.add_comm]

theorem commitmentsCounted_iff {s : State} : CommitmentsCounted s ↔ s.balance = 0 := by
  simp only [CommitmentsCounted, State.balance, State.dockets, length_committing_dockets, State.lanes_toList, List.map_cons,
    List.map_nil, List.sum_cons, List.sum_nil, Fin.sum_univ_four]
  omega

/-- A change of one lane changes the balance by what that lane committed and commits. -/
theorem sum_commits_of_lane {s t : State} {i : LaneId} (others : ∀ j, j ≠ i → t.lane j = s.lane j) :
    ∑ j, ((t.lane j).commits : Int) = ∑ j, ((s.lane j).commits : Int) - (s.lane i).commits + (t.lane i).commits := by
  rw [← Finset.add_sum_erase _ _ (Finset.mem_univ i), ← Finset.add_sum_erase (a := i) _ (fun j => ((s.lane j).commits : Int))
    (Finset.mem_univ i), Finset.sum_congr rfl fun j hj => by rw [others j (Finset.ne_of_mem_erase hj)]]
  ring

/-! ### What passes from one state to another -/

/-- Every invariant but the lanes' own and the commitment count passes from `s` to `t`, and so does the queue of commands. -/
structure KeepsBooks (s t : State) : Prop where
  pending : t.pending = s.pending
  attention : AttentionOnce s → AttentionOnce t
  accounts : AccountsSound s → AccountsSound t
  types : TypesSound s → TypesSound t
  dockets : DocketsSound s → DocketsSound t
  pressure : PressureSound s → PressureSound t

/-- Every invariant passes from `s` to `t`, and so does the queue of commands. -/
structure Keeps (s t : State) : Prop extends KeepsBooks s t where
  commitments : CommitmentsCounted s → CommitmentsCounted t
  lanes : LanesSound s → LanesSound t

theorem KeepsBooks.refl (s : State) : KeepsBooks s s := ⟨rfl, id, id, id, id, id⟩

theorem KeepsBooks.trans {s t u : State} (h : KeepsBooks s t) (k : KeepsBooks t u) : KeepsBooks s u :=
  ⟨k.pending.trans h.pending, k.attention ∘ h.attention, k.accounts ∘ h.accounts, k.types ∘ h.types, k.dockets ∘ h.dockets,
    k.pressure ∘ h.pressure⟩

@[refl] theorem Keeps.refl (s : State) : Keeps s s := ⟨.refl s, id, id⟩

@[trans] theorem Keeps.trans {s t u : State} (h : Keeps s t) (k : Keeps t u) : Keeps s u :=
  ⟨h.toKeepsBooks.trans k.toKeepsBooks, k.commitments ∘ h.commitments, k.lanes ∘ h.lanes⟩

theorem Keeps.ite {c : Prop} [Decidable c] {s t u : State} (ht : c → Keeps s t) (hu : ¬ c → Keeps s u) :
    Keeps s (if c then t else u) := by
  split <;> rename_i h
  · exact ht h
  · exact hu h

/-! ### Changes that no invariant sees -/

/-- `t` is `s` but for the lanes and what no invariant reads: the clock, the bays, the settlements, the orders' own fields, the
event flags, the day and its counters, and the port beside its attention set. -/
structure Rest (s t : State) : Prop where
  pending : t.pending = s.pending
  types : t.types = s.types
  settings : t.settings = s.settings
  accounts : t.accounts = s.accounts
  orders : t.queue.orders.length = s.queue.orders.length
  commitments : t.queue.commitments = s.queue.commitments
  pressure : t.queue.pressure = s.queue.pressure
  state : t.part.state = s.part.state
  area1 : t.part.area1 = s.part.area1
  area2 : t.part.area2 = s.part.area2
  save : t.part.save = s.part.save
  attention : s.port.attention.Nodup → t.port.attention.Nodup

/-- `t` is `s` but for what no invariant reads, the lanes the same. -/
structure Unseen (s t : State) : Prop extends Rest s t where
  lanes : t.lanes = s.lanes

theorem Rest.refl (s : State) : Rest s s := ⟨rfl, rfl, rfl, rfl, rfl, rfl, rfl, rfl, rfl, rfl, rfl, id⟩

theorem Rest.trans {s t u : State} (h : Rest s t) (k : Rest t u) : Rest s u :=
  ⟨k.pending.trans h.pending, k.types.trans h.types, k.settings.trans h.settings, k.accounts.trans h.accounts,
    k.orders.trans h.orders, k.commitments.trans h.commitments, k.pressure.trans h.pressure, k.state.trans h.state,
    k.area1.trans h.area1, k.area2.trans h.area2, k.save.trans h.save, k.attention ∘ h.attention⟩

@[refl] theorem Unseen.refl (s : State) : Unseen s s := ⟨.refl s, rfl⟩

@[trans] theorem Unseen.trans {s t u : State} (h : Unseen s t) (k : Unseen t u) : Unseen s u :=
  ⟨h.toRest.trans k.toRest, k.lanes.trans h.lanes⟩

theorem Unseen.ite {c : Prop} [Decidable c] {s t u : State} (ht : Unseen s t) (hu : Unseen s u) :
    Unseen s (if c then t else u) := by
  split
  · exact ht
  · exact hu

theorem Unseen.lane {s t : State} (h : Unseen s t) (i : LaneId) : t.lane i = s.lane i := by
  simp only [State.lane, h.lanes]

theorem Rest.account {s t : State} (h : Rest s t) (a : Nat) : t.account a = s.account a := by
  simp only [State.account, h.accounts]

/-! ### The dockets of the lanes -/

theorem docketsSound_iff {s : State} : DocketsSound s ↔ ∀ i d, (s.lane i).docket = some d → d.Sound := by
  simp only [DocketsSound, State.mem_dockets]
  exact ⟨fun h i d hd => h d ⟨i, hd⟩, fun h d ⟨i, hd⟩ => h i d hd⟩

/-- The docket of `l'` follows that of `l`: absent together, of one method, and sound when that was. -/
structure Lane.Follows (l l' : Lane) : Prop where
  method : l'.docket.map Docket.method = l.docket.map Docket.method
  sound : (∀ d, l.docket = some d → d.Sound) → ∀ d, l'.docket = some d → d.Sound

/-- A lane change that lane control's invariant and the docket engine's both survive. -/
structure Lane.Keeps (l l' : Lane) : Prop extends Lane.Follows l l' where
  keeps : l.Sound → l'.Sound

theorem Lane.Follows.of_docket {l l' : Lane} (h : l'.docket = l.docket) : l.Follows l' :=
  ⟨by rw [h], fun hs d hd => hs d (h ▸ hd)⟩

theorem Lane.Follows.of_map {l l' : Lane} {f : Docket → Docket} (h : l'.docket = l.docket.map f)
    (hm : ∀ d, (f d).method = d.method) (hs : ∀ d, d.Sound → (f d).Sound) : l.Follows l' := by
  constructor
  · rw [h, Option.map_map]; exact congrFun (congrArg Option.map (funext hm)) _
  · intro hl d hd
    rw [h] at hd
    obtain ⟨d', hd', rfl⟩ := Option.map_eq_some_iff.1 hd
    exact hs d' (hl d' hd')

theorem Lane.Follows.commits {l l' : Lane} (h : l.Follows l') : l'.commits = l.commits := by
  have any (l : Lane) : l.docket.any (fun d => decide (d.method ≠ .account))
      = (l.docket.map Docket.method).any fun m => decide (m ≠ .account) := by cases l.docket <;> rfl
  unfold Lane.commits
  rw [any, any, h.method]

/-- The lists of a lane as `Lane.Sound` reads them, and everything else it reads, are the same. -/
theorem Lane.Keeps.of_alike {l l' : Lane} (state : l'.state = l.state) (holds : l'.holds = l.holds)
    (docket : l'.docket = l.docket) (span : l'.span.length = l.span.length) (travel : l'.travel.length = l.travel.length) :
    l.Keeps l' := by
  refine ⟨.of_docket docket, ?_⟩
  intro h
  unfold Lane.Sound Lane.notClosing at *
  rw [state, holds, docket, span, travel, ← List.length_eq_zero_iff, ← List.length_eq_zero_iff, span, travel,
    List.length_eq_zero_iff, List.length_eq_zero_iff]
  exact h

/-! ### A change of one lane -/

theorem KeepsBooks.of_lane {s t : State} (rest : Rest s t) {i : LaneId} (others : ∀ j, j ≠ i → t.lane j = s.lane j)
    (sound : (∀ d, (s.lane i).docket = some d → d.Sound) → ∀ d, (t.lane i).docket = some d → d.Sound) : KeepsBooks s t where
  pending := rest.pending
  attention := rest.attention
  accounts h := by unfold AccountsSound; simp only [rest.account]; exact h
  types h := by unfold TypesSound; rw [rest.types, rest.area1, rest.area2, rest.save]; exact h
  dockets h := by
    rw [docketsSound_iff] at h ⊢
    intro j
    by_cases hj : j = i
    · subst hj; exact sound (h j)
    · rw [others j hj]; exact h j
  pressure h := by
    unfold PressureSound
    rw [rest.settings, rest.area1, rest.area2, rest.save, rest.pressure, rest.commitments, rest.state]
    exact h

theorem Rest.balance {s t : State} (rest : Rest s t) {i : LaneId} (others : ∀ j, j ≠ i → t.lane j = s.lane j) :
    t.balance = s.balance + (s.lane i).commits - (t.lane i).commits := by
  simp only [State.balance, rest.commitments, rest.orders, sum_commits_of_lane others]
  ring

theorem lanesSound_of_lane {s t : State} {i : LaneId} (others : ∀ j, j ≠ i → t.lane j = s.lane j)
    (sound : (s.lane i).Sound → (t.lane i).Sound) (h : LanesSound s) : LanesSound t := by
  intro j
  by_cases hj : j = i
  · subst hj; exact sound (h j)
  · rw [others j hj]; exact h j

theorem Keeps.of_lane {s t : State} (rest : Rest s t) {i : LaneId} (others : ∀ j, j ≠ i → t.lane j = s.lane j)
    (keeps : (s.lane i).Keeps (t.lane i)) : Keeps s t where
  toKeepsBooks := .of_lane rest others keeps.sound
  commitments h := by
    rw [commitmentsCounted_iff] at h ⊢
    rw [rest.balance others, keeps.toFollows.commits, h]
    ring
  lanes := lanesSound_of_lane others keeps.keeps

theorem Unseen.keeps {s t : State} (h : Unseen s t) : Keeps s t :=
  .of_lane (i := 0) h.toRest (fun j _ => h.lane j)
    (by rw [h.lane 0]; exact .of_alike rfl rfl rfl rfl rfl)

/-! ### The named updates -/

theorem Rest.modLane (s : State) (i : LaneId) (f : Lane → Lane) : Rest s (s.modLane i f) :=
  ⟨rfl, rfl, rfl, rfl, rfl, rfl, rfl, rfl, rfl, rfl, rfl, id⟩

theorem Keeps.modLane {s : State} {i : LaneId} {f : Lane → Lane} (h : (s.lane i).Keeps (f (s.lane i))) :
    Keeps s (s.modLane i f) :=
  .of_lane (.modLane s i f) (fun _ hj => s.lane_modLane_ne hj.symm f) (by rw [State.lane_modLane_self]; exact h)

/-- A change of what no invariant reads of a lane. -/
theorem Keeps.modLane_alike {s : State} {i : LaneId} {f : Lane → Lane} (state : (f (s.lane i)).state = (s.lane i).state)
    (holds : (f (s.lane i)).holds = (s.lane i).holds) (docket : (f (s.lane i)).docket = (s.lane i).docket)
    (span : (f (s.lane i)).span.length = (s.lane i).span.length)
    (travel : (f (s.lane i)).travel.length = (s.lane i).travel.length) : Keeps s (s.modLane i f) :=
  .modLane (.of_alike state holds docket span travel)

theorem Keeps.modDiverter (s : State) (i : LaneId) (f : Diverter → Diverter) : Keeps s (s.modDiverter i f) :=
  .modLane_alike rfl rfl rfl rfl rfl

theorem Unseen.join (s : State) (x : Source) : Unseen s (s.join x) :=
  ⟨⟨rfl, rfl, rfl, rfl, rfl, rfl, rfl, rfl, rfl, rfl, rfl, joinSource_nodup⟩, rfl⟩

theorem Unseen.at (s : State) (t : Tick) : Unseen s (s.at t) :=
  ⟨⟨rfl, rfl, rfl, rfl, rfl, rfl, rfl, rfl, rfl, rfl, rfl, id⟩, rfl⟩

theorem Unseen.reach (s : State) (t : Tick) : Unseen s (s.reach t) := by rw [State.reach_eq]; exact .at s _

theorem Unseen.modBay (s : State) (b : BayId) (f : Bay → Bay) : Unseen s (s.modBay b f) :=
  ⟨⟨rfl, rfl, rfl, rfl, rfl, rfl, rfl, rfl, rfl, rfl, rfl, id⟩, rfl⟩

theorem Unseen.modService (s : State) (b : BayId) (f : Service → Service) : Unseen s (s.modService b f) := .modBay s b _

theorem Keeps.raiseLane (s : State) (i : LaneId) (f : LaneFlags → LaneFlags) : Keeps s (s.raiseLane i f) :=
  .trans (.modLane_alike rfl rfl rfl rfl rfl) (Unseen.join _ _).keeps

theorem Unseen.raiseBay (s : State) (b : BayId) (f : BayFlags → BayFlags) : Unseen s (s.raiseBay b f) :=
  .trans (.modBay s b _) (.join _ _)

theorem Unseen.raiseQueue (s : State) (f : QueueFlags → QueueFlags) : Unseen s (s.raiseQueue f) :=
  ⟨⟨rfl, rfl, rfl, rfl, rfl, rfl, rfl, rfl, rfl, rfl, rfl, joinSource_nodup⟩, rfl⟩

theorem Unseen.raisePart (s : State) (f : PartFlags → PartFlags) : Unseen s (s.raisePart f) :=
  ⟨⟨rfl, rfl, rfl, rfl, rfl, rfl, rfl, rfl, rfl, rfl, rfl, joinSource_nodup⟩, rfl⟩

theorem length_modifyFirst {α : Type} (p : α → Bool) (f : α → α) (xs : List α) : (modifyFirst p f xs).length = xs.length := by
  induction xs with
  | nil => rfl
  | cons x xs ih => rw [modifyFirst]; split <;> simp [ih]

theorem length_modifyLast {α : Type} (p : α → Bool) (f : α → α) (xs : List α) : (modifyLast p f xs).length = xs.length := by
  simp [modifyLast, length_modifyFirst]

theorem Unseen.modOrder (s : State) (n : Nat) (f : PayOrder → PayOrder) : Unseen s (s.modOrder n f) :=
  ⟨⟨rfl, rfl, rfl, rfl, length_modifyFirst _ _ _, rfl, rfl, rfl, rfl, rfl, rfl, id⟩, rfl⟩

end Sys2Proof.Machine
end

section
/-! PROOF. What the payout queue and the payout bays keep: the commitment count through every order that comes and goes, and
that a bay's events leave all but the pending list unseen. -/

namespace Sys2Proof.Machine

/-! ### Commitments and pressure (R131, R132) -/

theorem Pressure.next_eq_normal {high low count : Nat} (marks : low < high) (p : Pressure)
    (h : p.next high low count = .normal) : count < high := by
  cases p <;> simp only [Pressure.next] at h <;> split at h <;> simp_all
  omega

/-- What re-evaluating the pressure can do: the pressure takes R132's next value, and QUEUE may join the attention set. -/
theorem State.evaluatePressure_cases (s : State) :
    ∃ f set, (s.port.attention.Nodup → set.Nodup) ∧ s.evaluatePressure = { s with
      queue := { s.queue with
        pressure := s.queue.pressure.next s.settings.highMark s.settings.lowMark s.queue.commitments, flags := f }
      port := { s.port with attention := set } } := by
  unfold State.evaluatePressure
  simp only
  split <;> rename_i h
  · exact ⟨s.queue.flags, s.port.attention, id, by rw [h]⟩
  · exact ⟨_, _, joinSource_nodup, rfl⟩

/-- A re-evaluation after a change of the count, which must stay within the 16 places and 0 in STARTING. -/
theorem Keeps.books_evaluatePressure (s : State) (n : Nat)
    (bound : PressureSound s → n ≤ Config.pendingMax ∧ (s.part.state = .starting → n = 0)) :
    KeepsBooks s (State.evaluatePressure { s with queue := { s.queue with commitments := n } }) := by
  obtain ⟨f, set, nodup, eq⟩ := State.evaluatePressure_cases { s with queue := { s.queue with commitments := n } }
  rw [eq]
  refine ⟨rfl, nodup, id, id, id, fun h => ?_⟩
  obtain ⟨marks, area1, area2, save, -⟩ := id h
  exact ⟨marks, area1, area2, save, Pressure.next_eq_normal marks.1 _, bound h⟩

theorem State.balance_evaluatePressure (s : State) : s.evaluatePressure.balance = s.balance := by
  obtain ⟨f, set, -, eq⟩ := s.evaluatePressure_cases
  rw [eq]
  rfl

theorem Keeps.books_addCommitment {s : State} (normal : s.queue.pressure = .normal) (started : s.part.state ≠ .starting) :
    KeepsBooks s s.addCommitment := by
  refine books_evaluatePressure s _ fun h => ?_
  obtain ⟨marks, -, -, -, below, -, -⟩ := h
  have := below normal
  have := marks.2
  exact ⟨show s.queue.commitments + 1 ≤ 16 by omega, fun h => absurd h started⟩

theorem Keeps.books_dropCommitment (s : State) : KeepsBooks s s.dropCommitment := by
  refine books_evaluatePressure s _ fun h => ?_
  obtain ⟨-, -, -, -, -, places, none⟩ := h
  exact ⟨(Nat.sub_le _ _).trans places, fun h => by rw [none h]⟩

theorem State.balance_addCommitment (s : State) : s.addCommitment.balance = s.balance + 1 := by
  rw [State.addCommitment, State.balance_evaluatePressure]
  simp only [State.balance, State.lane, Nat.cast_add, Nat.cast_one]
  ring

theorem State.balance_dropCommitment {s : State} (h : 0 < s.queue.commitments) :
    s.dropCommitment.balance = s.balance - 1 := by
  rw [State.dropCommitment, State.balance_evaluatePressure]
  simp only [State.balance, State.lane]
  omega

@[simp] theorem State.addCommitment_lanes (s : State) : s.addCommitment.lanes = s.lanes := State.evaluatePressure_lanes _
@[simp] theorem State.dropCommitment_lanes (s : State) : s.dropCommitment.lanes = s.lanes := State.evaluatePressure_lanes _

theorem LanesSound.of_lanes {s t : State} (h : t.lanes = s.lanes) (hs : LanesSound s) : LanesSound t := by
  intro i
  have : t.lane i = s.lane i := by simp only [State.lane, h]
  rw [this]
  exact hs i

/-! ### Orders (R128 to R130) -/

theorem State.books_appendOrder (account : Nat) (docket : Option Nat) (m : PayMethod) (p : Nat) (s : State) :
    KeepsBooks s (s.appendOrder account docket m p) :=
  ⟨rfl, joinSource_nodup, id, id, id, id⟩

theorem State.balance_appendOrder (account : Nat) (docket : Option Nat) (m : PayMethod) (p : Nat) (s : State) :
    (s.appendOrder account docket m p).balance = s.balance - 1 := by
  have length : (s.appendOrder account docket m p).queue.orders.length = s.queue.orders.length + 1 :=
    List.length_append
  have same : (s.appendOrder account docket m p).balance
      = s.queue.commitments - (s.appendOrder account docket m p).queue.orders.length - ∑ i, ((s.lane i).commits : Int) := rfl
  rw [same, length, State.balance]
  push_cast
  ring

/-- The order with this number is pending. -/
def State.hasOrder (s : State) (n : Nat) : Prop := ∃ o ∈ s.queue.orders, o.number = n

theorem State.hasOrder_of_order {s : State} {n : Nat} {o : PayOrder} (h : s.order n = some o) : s.hasOrder o.number :=
  ⟨o, List.mem_of_find?_eq_some h, rfl⟩

theorem State.hasOrder.length_pos {s : State} {n : Nat} (h : s.hasOrder n) : 0 < s.queue.orders.length := by
  obtain ⟨o, ho, -⟩ := h
  exact List.length_pos_of_mem ho

theorem Keeps.books_retireOrder (n : Nat) (o : PayOrder) (s : State) : KeepsBooks s (s.retireOrder n o) :=
  ⟨rfl, id, id, id, id, id⟩

theorem State.balance_retireOrder {n : Nat} {s : State} (o : PayOrder) (h : s.hasOrder n) :
    (s.retireOrder n o).balance = s.balance + 1 := by
  obtain ⟨x, hx, rfl⟩ := id h
  have length := List.length_eraseP_of_mem (p := fun y : PayOrder => decide (y.number = x.number)) hx (by simp)
  have := h.length_pos
  simp only [State.retireOrder, State.balance, State.lane, length]
  omega

/-- An order that is pending leaves the list, and its commitment ends: the balance stays. -/
theorem Keeps.retire_drop {n : Nat} {s : State} (o : PayOrder) (h : s.hasOrder n) :
    Keeps s (s.retireOrder n o).dropCommitment where
  toKeepsBooks := (books_retireOrder n o s).trans (books_dropCommitment _)
  commitments hc := by
    have pos : 0 < (s.retireOrder n o).queue.commitments := by
      have := h.length_pos
      have : s.queue.commitments = _ := hc
      show 0 < s.queue.commitments
      omega
    rw [commitmentsCounted_iff] at hc ⊢
    rw [State.balance_dropCommitment pos, State.balance_retireOrder o h, hc]
    rfl
  lanes := .of_lanes (State.dropCommitment_lanes _)

theorem State.keeps_completeOrder {o : PayOrder} {s : State} (h : s.hasOrder o.number) : Keeps s (s.completeOrder o) :=
  (Keeps.retire_drop _ h).trans (Unseen.raiseQueue _ _).keeps

theorem State.unseen_returnOrder (n : Nat) (s : State) : Unseen s (s.returnOrder n) :=
  (Unseen.modOrder _ _ _).trans (.raiseQueue _ _)

/-! ### The hand-over of an order (R135, R147, R150, R153) -/

theorem State.unseen_startUnit (b : BayId) (s : State) : Unseen s (s.startUnit b) := .modService _ _ _

theorem State.unseen_requestUnit (b : BayId) (s : State) : Unseen s (s.requestUnit b) := by
  unfold State.requestUnit
  simp only
  split
  · rfl
  · split
    · exact s.unseen_startUnit b
    · exact .ite (s.unseen_startUnit b) (.modService _ _ _)

theorem State.unseen_handCash (b : BayId) (o : PayOrder) (s : State) : Unseen s (s.handCash b o) :=
  (Unseen.modOrder _ _ _).trans (.trans (.modBay _ _ _) (State.unseen_requestUnit _ _))

theorem State.unseen_startPrint (b : BayId) (o : PayOrder) (day seq attempt : Nat) (s : State) :
    Unseen s (s.startPrint b o day seq attempt) := .modService _ _ _

theorem State.unseen_handVoucher (b : BayId) (o : PayOrder) (number : Nat × Nat) (s : State) :
    Unseen s (s.handVoucher b o number) :=
  (Unseen.modOrder _ _ _).trans (.trans (.modBay _ _ _) (State.unseen_startPrint _ _ _ _ _ _))

theorem Unseen.voucherSeq (s : State) (x : Option Nat) : Unseen s { s with part := { s.part with voucherSeq := x } } :=
  ⟨⟨rfl, rfl, rfl, rfl, rfl, rfl, rfl, rfl, rfl, rfl, rfl, id⟩, rfl⟩

theorem State.unseen_handPrint (b : BayId) (o : PayOrder) (next : Nat) (s : State) : Unseen s (s.handPrint b o next) := by
  unfold State.handPrint
  split
  · exact State.unseen_handVoucher _ _ _ _
  · exact (Unseen.voucherSeq _ _).trans (State.unseen_handVoucher _ _ _ _)

theorem State.unseen_offer (b : BayId) (s : State) : Unseen s (s.offer b) := by
  unfold State.offer
  split
  · split
    · split
      · exact State.unseen_handCash _ _ _
      · rfl
    · split
      · exact State.unseen_handPrint _ _ _ _
      · rfl
    · rfl
  · rfl

theorem State.unseen_arbitrate (s : State) : Unseen s s.arbitrate := (State.unseen_offer 0 s).trans (State.unseen_offer 1 _)

/-! ### Bays -/

theorem State.unseen_enterPowering (b : BayId) (s : State) : Unseen s (s.enterPowering b) := .modBay _ _ _

theorem State.unseen_interrupt (b : BayId) (order : Option Nat) (s : State) : Unseen s (s.interrupt b order) := by
  cases order with
  | none => rfl
  | some n => exact (Unseen.raiseBay _ _ _).trans ((State.unseen_returnOrder _ _).trans (State.unseen_arbitrate _))

theorem State.unseen_recordFault (b : BayId) (c : FaultCause) (s : State) : Unseen s (s.recordFault b c) :=
  (Unseen.modBay _ _ _).trans (.raiseBay _ _ _)

theorem State.unseen_enterFault (b : BayId) (c : FaultCause) (s : State) : Unseen s (s.enterFault b c) :=
  (Unseen.modBay _ _ _).trans ((State.unseen_recordFault _ _ _).trans (State.unseen_interrupt _ _ _))

theorem State.unseen_endDrain (b : BayId) (s : State) : Unseen s (s.endDrain b) :=
  .trans (.ite ((Unseen.modBay _ _ _).trans (State.unseen_enterPowering _ _)) (.modBay _ _ _)) (State.unseen_interrupt _ _ _)

theorem State.unseen_moduleFails (b : BayId) (c : FaultCause) (s : State) : Unseen s (s.moduleFails b c) := by
  unfold State.moduleFails
  split
  case h_4 => exact (State.unseen_recordFault _ _ _).trans (State.unseen_endDrain _ _)
  case h_5 => rfl
  all_goals exact State.unseen_enterFault _ _ _

theorem State.unseen_enterReady (b : BayId) (s : State) : Unseen s (s.enterReady b) :=
  (Unseen.modBay _ _ _).trans ((Unseen.raiseBay _ _ _).trans (State.unseen_arbitrate _))

theorem State.unseen_startingLevels (b : BayId) (s : State) : Unseen s (s.startingLevels b) :=
  .ite (State.unseen_enterFault _ _ _) (.ite (State.unseen_enterReady _ _) (.refl s))

theorem State.unseen_poweringEnds (b : BayId) (s : State) : Unseen s (s.poweringEnds b) :=
  (Unseen.modBay _ _ _).trans (State.unseen_startingLevels _ _)

theorem State.unseen_readyAsserted (b : BayId) (s : State) : Unseen s (s.readyAsserted b) :=
  .ite (State.unseen_startingLevels _ _) (.refl s)

theorem State.unseen_readyReleased (b : BayId) (s : State) : Unseen s (s.readyReleased b) :=
  .ite (.refl s) (State.unseen_moduleFails _ _ _)

theorem State.unseen_latchKind (b : BayId) (s : State) : Unseen s (s.latchKind b) :=
  have latched := (Unseen.modBay s _ _).trans (.raiseBay _ _ _)
  .ite (latched.trans (State.unseen_enterPowering _ _)) latched

theorem State.unseen_removeModule (b : BayId) (s : State) : Unseen s (s.removeModule b) :=
  (Unseen.modBay _ _ _).trans ((Unseen.raiseBay _ _ _).trans (State.unseen_interrupt _ _ _))

theorem State.unseen_followSeats (b : BayId) (was : Bool) (s : State) : Unseen s (s.followSeats b was) :=
  .ite (.ite (.refl s) (State.unseen_latchKind _ _)) (.ite (State.unseen_removeModule _ _) (.modBay _ _ _))

theorem State.unseen_serviceDone (b : BayId) (s : State) : Unseen s (s.serviceDone b) :=
  .ite ((Unseen.modBay _ _ _).trans (State.unseen_endDrain _ _))
    ((Unseen.modBay _ _ _).trans ((Unseen.modBay _ _ _).trans (State.unseen_arbitrate _)))

theorem State.keeps_finishOrder {b : BayId} {o : PayOrder} {s : State} (h : s.hasOrder o.number) :
    Keeps s (s.finishOrder b o) :=
  (State.keeps_completeOrder h).trans ((Unseen.raiseBay _ _ _).trans (State.unseen_serviceDone _ _)).keeps

theorem State.order_of_served {s : State} {b : BayId} {o : PayOrder} (h : s.served b = some o) :
    ∃ n, s.order n = some o := by
  unfold State.served at h
  split at h
  case h_3 => cases h
  all_goals
    obtain ⟨n, -, hn⟩ := Option.bind_eq_some_iff.1 h
    exact ⟨n, hn⟩

theorem State.hasOrder_of_served {s : State} {b : BayId} {o : PayOrder} (h : s.served b = some o) : s.hasOrder o.number := by
  obtain ⟨n, hn⟩ := State.order_of_served h
  exact State.hasOrder_of_order hn

/-- A changed field other than its number leaves an order pending. -/
theorem State.hasOrder_modOrder {s : State} {m : Nat} (n : Nat) {f : PayOrder → PayOrder} (hf : ∀ o, (f o).number = o.number)
    (h : s.hasOrder m) : (s.modOrder n f).hasOrder m := by
  have numbers (xs : List PayOrder) (p : PayOrder → Bool) : (modifyFirst p f xs).map PayOrder.number = xs.map PayOrder.number := by
    induction xs with
    | nil => rfl
    | cons x xs ih => rw [modifyFirst]; split <;> simp [hf, ih]
  have : m ∈ (s.modOrder n f).queue.orders.map PayOrder.number := by
    rw [State.modOrder, State.modOrders, numbers]
    obtain ⟨o, ho, hn⟩ := h
    exact List.mem_map.2 ⟨o, ho, hn⟩
  obtain ⟨o, ho, hn⟩ := List.mem_map.1 this
  exact ⟨o, ho, hn⟩

theorem State.keeps_payUnit {b : BayId} {o : PayOrder} {s : State} (h : s.hasOrder o.number) : Keeps s (s.payUnit b o) := by
  unfold State.payUnit
  simp only
  have paid : Unseen s ((s.modOrder o.number fun x => { x with paid := o.paid + s.settings.cashUnit }).modService b fun v =>
      { v with unitTimer := none, units := v.units + 1 }) := (Unseen.modOrder _ _ _).trans (.modService _ _ _)
  refine paid.keeps.trans (.ite (fun _ => ?_) fun _ => ?_)
  · exact State.keeps_finishOrder (State.hasOrder_modOrder (s := s) o.number (fun _ => rfl) h)
  · exact (Unseen.ite (State.unseen_endDrain _ _) (State.unseen_requestUnit _ _)).keeps

theorem State.unseen_strayUnit (b : BayId) (s : State) : Unseen s (s.strayUnit b) :=
  (Unseen.modBay _ _ _).trans (.raiseBay _ _ _)

theorem State.keeps_confirmation (b : BayId) (s : State) : Keeps s (s.confirmation b) := by
  unfold State.confirmation
  split
  · split
    next served _ => exact State.keeps_payUnit (State.hasOrder_of_served served)
    · exact (State.unseen_strayUnit _ _).keeps
  · rfl

theorem State.unseen_pulseEnds (b : BayId) (s : State) : Unseen s (s.pulseEnds b) := .modBay _ _ _

theorem State.keeps_printerFrame (b : BayId) (f : Frame) (s : State) : Keeps s (s.printerFrame b f) := by
  unfold State.printerFrame
  split
  next served _ _ => exact .ite (fun _ => State.keeps_finishOrder (State.hasOrder_of_served served)) fun _ => .refl s
  · exact (Unseen.ite (State.unseen_moduleFails _ _ _) (.refl s)).keeps
  · rfl

theorem State.keeps_bayCharacter (b : BayId) (start t : Tick) (c : Cells) (s : State) :
    Keeps s (s.bayCharacter b start t c) := by
  unfold State.bayCharacter
  split
  · simp only
    split
    · exact (Unseen.modBay _ _ _).keeps.trans (State.keeps_printerFrame _ _ _)
    · exact (Unseen.modBay _ _ _).keeps
  · rfl

theorem State.unseen_printFrameSent (b : BayId) (s : State) : Unseen s (s.printFrameSent b) :=
  .ite (.refl s) (.modService _ _ _)

theorem State.unseen_powerOff (b : BayId) (s : State) : Unseen s (s.powerOff b) := by
  unfold State.powerOff
  split
  case h_5 => exact .ite ((Unseen.modBay _ _ _).trans (State.unseen_endDrain _ _)) (.modBay _ _ _)
  case h_6 => rfl
  all_goals exact .modBay _ _ _

theorem State.unseen_setPower (b : BayId) (on : Bool) (s : State) : Unseen s (s.setPower b on) :=
  (Unseen.modBay _ _ _).trans
    (.ite (.ite (State.unseen_enterPowering _ _) (.refl _)) (State.unseen_powerOff _ _))

/-! ### A bay's tick (R143 to R154) -/

theorem State.unseen_moduleLevels (b : BayId) (s : State) : Unseen s (s.moduleLevels b) := by
  unfold State.moduleLevels
  split
  case h_1 => exact State.unseen_startingLevels _ _
  case h_5 => rfl
  all_goals exact .ite (State.unseen_moduleFails _ _ _) (.ite (.refl s) (State.unseen_moduleFails _ _ _))

theorem State.keeps_sampleBay (b : BayId) (s : State) : Keeps s (s.sampleBay b) :=
  (((Unseen.modBay s b Bay.sample).trans (.ite (.refl _) (State.unseen_followSeats _ _ _))).keeps.trans
    (.ite (fun _ => State.keeps_confirmation _ _) fun _ => .refl _)).trans (State.unseen_moduleLevels _ _).keeps

theorem State.unseen_tickPower (b : BayId) (s : State) : Unseen s (s.tickPower b) := by
  unfold State.tickPower
  split
  · split
    · exact State.unseen_poweringEnds _ _
    · exact State.unseen_moduleFails _ _ _
    · rfl
  · rfl

theorem State.unseen_tickService (b : BayId) (s : State) : Unseen s (s.tickService b) :=
  .trans (.ite (State.unseen_pulseEnds _ _) (.refl _)) <| .trans (.ite (State.unseen_startUnit _ _) (.refl _)) <|
    .trans (.ite (State.unseen_moduleFails _ _ _) (.refl _)) (.ite (State.unseen_moduleFails _ _ _) (.refl _))

theorem State.keeps_tickBay (s : State) (b : BayId) : Keeps s (s.tickBay b) :=
  (State.keeps_sampleBay b s).trans ((State.unseen_tickPower _ _).trans (State.unseen_tickService _ _)).keeps

end Sys2Proof.Machine
end

section
/-! PROOF. A docket stays sound: the plan under reserving, committing and releasing (R78, R79), and the runs under adjusting
(R84 to R86). -/

namespace Sys2Proof.Machine

/-! ### The plan of a docket (R78, R79) -/

/-- What a docket's plan keeps: names and targets each once, every name given out, every target a run, something pending. -/
structure PlanSound (runs next : Nat) (plan : List PlanEntry) : Prop where
  names : (plan.map PlanEntry.name).Nodup
  targets : (plan.filterMap PlanEntry.target).Nodup
  given : ∀ e ∈ plan, e.name < next
  pending : ∀ e ∈ plan, 1 ≤ e.pending
  made : ∀ e ∈ plan, ∀ k, e.target = some k → k < runs

/-- The entries of a plan whose run is not made yet. -/
def unmade (plan : List PlanEntry) : Nat := (plan.filter fun e => e.target.isNone).length

theorem Docket.sound_iff {d : Docket} : d.Sound ↔ d.runs.length + d.reserved ≤ Config.runsMax
    ∧ d.accepted = (d.runs.map Run.count).sum ∧ d.reserved = unmade d.plan ∧ PlanSound d.runs.length d.nextEntry d.plan := by
  constructor
  · rintro ⟨room, accepted, reserved, names, targets, entries⟩
    exact ⟨room, accepted, reserved, names, targets, fun e he => (entries e he).1, fun e he => (entries e he).2.1,
      fun e he => (entries e he).2.2⟩
  · rintro ⟨room, accepted, reserved, names, targets, given, pending, made⟩
    exact ⟨room, accepted, reserved, names, targets, fun e he => ⟨given e he, pending e he, made e he⟩⟩

@[simp] theorem unmade_append (xs ys : List PlanEntry) : unmade (xs ++ ys) = unmade xs + unmade ys := by
  simp [unmade, List.filter_append]

theorem unmade_cons (e : PlanEntry) (xs : List PlanEntry) :
    unmade (e :: xs) = (if e.target.isNone then 1 else 0) + unmade xs := by
  unfold unmade
  rw [List.filter_cons]
  split <;> simp_all [Nat.add_comm]

@[simp] theorem unmade_nil : unmade [] = 0 := rfl

theorem PlanSound.mono {runs runs' next next' : Nat} {plan : List PlanEntry} (h : PlanSound runs next plan)
    (hr : runs ≤ runs') (hn : next ≤ next') : PlanSound runs' next' plan :=
  ⟨h.names, h.targets, fun e he => (h.given e he).trans_le hn, h.pending, fun e he k hk => (h.made e he k hk).trans_le hr⟩

/-- An entry that gives way to at most one of its name and target leaves a plan sound. -/
theorem PlanSound.replace {runs next : Nat} {xs ys zs : List PlanEntry} {e : PlanEntry}
    (h : PlanSound runs next (xs ++ e :: ys)) (one : zs.length ≤ 1)
    (same : ∀ z ∈ zs, z.name = e.name ∧ z.target = e.target ∧ 1 ≤ z.pending) : PlanSound runs next (xs ++ zs ++ ys) := by
  obtain rfl | ⟨z, rfl⟩ : zs = [] ∨ ∃ z, zs = [z] := by
    match zs, one with
    | [], _ => exact .inl rfl
    | [z], _ => exact .inr ⟨z, rfl⟩
  · have sub : (xs ++ [] ++ ys).Sublist (xs ++ e :: ys) := by
      rw [List.append_nil]
      exact (List.sublist_cons_self e ys).append_left xs
    exact ⟨h.names.sublist (sub.map _), h.targets.sublist (sub.filterMap _), fun x hx => h.given x (sub.subset hx),
      fun x hx => h.pending x (sub.subset hx), fun x hx => h.made x (sub.subset hx)⟩
  · obtain ⟨name, target, pending⟩ := same z (List.mem_singleton.2 rfl)
    have mem {x : PlanEntry} (hx : x ∈ xs ++ [z] ++ ys) : x = z ∨ x ∈ xs ++ e :: ys := by
      simp only [List.mem_append, List.mem_cons, List.not_mem_nil, or_false] at hx ⊢
      tauto
    have he : e ∈ xs ++ e :: ys := by simp
    refine ⟨?_, ?_, fun x hx => ?_, fun x hx => ?_, fun x hx => ?_⟩
    · simpa [name] using h.names
    · simpa [List.filterMap_append, List.filterMap_cons, target] using h.targets
    · rcases mem hx with rfl | hx
      · rw [name]; exact h.given e he
      · exact h.given x hx
    · rcases mem hx with rfl | hx
      · exact pending
      · exact h.pending x hx
    · rcases mem hx with rfl | hx
      · rw [target]; exact h.made e he
      · exact h.made x hx

/-- An unmade entry whose run is made at the end of the list. -/
theorem PlanSound.make {runs next : Nat} {xs ys : List PlanEntry} {e : PlanEntry}
    (h : PlanSound runs next (xs ++ e :: ys)) (un : e.target = none) :
    PlanSound (runs + 1) next (xs ++ { e with target := some runs } :: ys) := by
  have fresh (x : PlanEntry) (hx : x ∈ xs ++ e :: ys) : x.target ≠ some runs :=
    fun same => Nat.lt_irrefl _ (h.made x hx runs same)
  have mem {x : PlanEntry} (hx : x ∈ xs ++ { e with target := some runs } :: ys) :
      x = { e with target := some runs } ∨ x ∈ xs ++ e :: ys := by
    simp only [List.mem_append, List.mem_cons] at hx ⊢
    tauto
  have he : e ∈ xs ++ e :: ys := by simp
  refine ⟨by simpa using h.names, ?_, fun x hx => ?_, fun x hx => ?_, fun x hx k hk => ?_⟩
  · have old := h.targets
    simp only [List.filterMap_append, List.filterMap_cons_none un] at old
    simp only [List.filterMap_append, List.filterMap_cons]
    refine (List.nodup_middle).2 (List.nodup_cons.2 ⟨?_, old⟩)
    simp only [List.mem_append, List.mem_filterMap, not_or, not_exists, not_and]
    exact ⟨fun x hx => fresh x (by simp [hx]), fun x hx => fresh x (by simp [hx])⟩
  · rcases mem hx with rfl | hx
    · exact h.given e he
    · exact h.given x hx
  · rcases mem hx with rfl | hx
    · exact h.pending e he
    · exact h.pending x hx
  · rcases mem hx with rfl | hx
    · cases hk; exact Nat.lt_succ_self _
    · exact (h.made x hx k hk).trans (Nat.lt_succ_self _)

/-- A new entry at the end of the plan. -/
theorem PlanSound.newEntry {runs next : Nat} {plan : List PlanEntry} (h : PlanSound runs next plan) (k : RunKey)
    {target : Option Nat} (room : ∀ n, target = some n → n < runs ∧ ∀ e ∈ plan, e.target ≠ some n) :
    PlanSound runs (next + 1) (plan ++ [⟨next, k, target, 1⟩]) := by
  have mem {x : PlanEntry} (hx : x ∈ plan ++ [⟨next, k, target, 1⟩]) : x ∈ plan ∨ x = ⟨next, k, target, 1⟩ := by
    simpa using hx
  refine ⟨?_, ?_, fun x hx => ?_, fun x hx => ?_, fun x hx => ?_⟩
  · rw [List.map_append, List.nodup_append]
    refine ⟨h.names, List.nodup_singleton _, fun a ha b hb => ?_⟩
    obtain ⟨e, he, rfl⟩ := List.mem_map.1 ha
    rw [List.mem_map] at hb
    obtain ⟨e', he', rfl⟩ := hb
    rw [List.mem_singleton.1 he']
    exact Nat.ne_of_lt (h.given e he)
  · rw [List.filterMap_append]
    cases target with
    | none => simpa using h.targets
    | some n =>
      refine List.nodup_append.2 ⟨h.targets, by simp, fun a ha b hb => ?_⟩
      obtain ⟨e, he, hea⟩ := List.mem_filterMap.1 ha
      have : b = n := by simpa using hb
      subst this
      rintro rfl
      exact (room a rfl).2 e he hea
  · rcases mem hx with hx | rfl
    · exact (h.given x hx).trans (Nat.lt_succ_self _)
    · exact Nat.lt_succ_self _
  · rcases mem hx with hx | rfl
    · exact h.pending x hx
    · exact Nat.le_refl _
  · rcases mem hx with hx | rfl
    · exact h.made x hx
    · exact fun n hn => (room n hn).1

/-! ### Commits and releases (R80, R82) -/

/-- Where an entry stands, one record of it goes: its pending count falls, and at 0 the entry leaves the plan. -/
theorem dropPending_at {xs ys : List PlanEntry} {e : PlanEntry} (first : ∀ q ∈ xs, q.name ≠ e.name)
    (pending : ∀ q ∈ xs ++ ys, 1 ≤ q.pending) :
    dropPending e.name (xs ++ e :: ys)
      = xs ++ (if 1 < e.pending then [{ e with pending := e.pending - 1 }] else []) ++ ys := by
  have keep (zs : List PlanEntry) (h : ∀ q ∈ zs, 1 ≤ q.pending) : zs.filter (fun q => decide (0 < q.pending)) = zs :=
    List.filter_eq_self.2 fun q hq => decide_eq_true (h q hq)
  have xs' := keep xs fun q hq => pending q (by simp [hq])
  have ys' := keep ys fun q hq => pending q (by simp [hq])
  rw [dropPending, modifyFirst_at (by simpa using first) (by simp), List.filter_append, List.filter_cons, xs', ys',
    List.append_assoc]
  by_cases h : 1 < e.pending
  · rw [if_pos (by simpa using by omega), if_pos h]; rfl
  · rw [if_neg (by simpa using by omega), if_neg h]; rfl

/-- The first entry of a name, where the plan stands around it. -/
theorem find?_name {plan : List PlanEntry} {n : Nat} {e : PlanEntry}
    (h : plan.find? (fun e => decide (e.name = n)) = some e) :
    e.name = n ∧ ∃ xs ys, plan = xs ++ e :: ys ∧ ∀ q ∈ xs, q.name ≠ n := by
  obtain ⟨he, xs, ys, eq, first⟩ := List.find?_eq_some_iff_append.1 h
  exact ⟨of_decide_eq_true he, xs, ys, eq, fun q hq => by simpa using first q hq⟩

theorem PlanSound.dropPending {runs next : Nat} {xs ys : List PlanEntry} {e : PlanEntry}
    (h : PlanSound runs next (xs ++ e :: ys)) (first : ∀ q ∈ xs, q.name ≠ e.name) :
    PlanSound runs next (dropPending e.name (xs ++ e :: ys))
      ∧ unmade (dropPending e.name (xs ++ e :: ys))
        = unmade (xs ++ e :: ys) - (if e.pending ≤ 1 ∧ e.target.isNone then 1 else 0) := by
  have pending : ∀ q ∈ xs ++ ys, 1 ≤ q.pending := fun q hq => h.pending q (by
    simp only [List.mem_append, List.mem_cons] at hq ⊢; tauto)
  rw [dropPending_at first pending]
  by_cases more : 1 < e.pending
  · rw [if_pos more, if_neg (by omega)]
    refine ⟨h.replace (by simp) ?_, by simp [unmade_cons]⟩
    simpa using by omega
  · rw [if_neg more]
    refine ⟨h.replace (by simp) (by simp), ?_⟩
    have : e.pending ≤ 1 := by omega
    by_cases un : e.target.isNone
    · simp [unmade_cons, this, un]; omega
    · simp [unmade_cons, un]

theorem sum_count_modify {runs : List Run} {k : Nat} (n : Nat) (h : k < runs.length) :
    ((runs.modify k fun r => { r with count := r.count + n }).map Run.count).sum = (runs.map Run.count).sum + n := by
  induction runs generalizing k with
  | nil => simp at h
  | cons r rs ih =>
    cases k with
    | zero => simp [Nat.add_right_comm]
    | succ k => simp [ih (by simpa using h), Nat.add_assoc]

theorem Docket.Sound.commit {d : Docket} (n : Nat) (h : d.Sound) : (d.commit n).Sound := by
  unfold Docket.commit
  split
  · exact h
  next e found =>
    obtain ⟨rfl, xs, ys, plan, first⟩ := find?_name found
    obtain ⟨room, accepted, reserved, sound⟩ := Docket.sound_iff.1 h
    rw [plan] at sound reserved
    split
    next k target =>
      obtain ⟨sound', unmade'⟩ := sound.dropPending first
      rw [if_neg (by simp [target])] at unmade'
      refine Docket.sound_iff.2 ⟨by simpa using room, ?_, by rw [plan, unmade', reserved]; rfl, by simpa [plan] using sound'⟩
      rw [sum_count_modify 1 (sound.made e (by simp) k target), accepted]
    next target =>
      have made : modifyFirst (fun x => decide (x.name = e.name)) (fun x => { x with target := some d.runs.length })
          (xs ++ e :: ys) = xs ++ { e with target := some d.runs.length } :: ys :=
        modifyFirst_at (by simpa using first) (by simp)
      have pos : 1 ≤ d.reserved := by rw [reserved]; simp [unmade_cons, target]; omega
      obtain ⟨sound', unmade'⟩ := (sound.make target).dropPending (e := { e with target := some d.runs.length }) first
      rw [if_neg (by simp)] at unmade'
      refine Docket.sound_iff.2 ⟨?_, ?_, ?_, ?_⟩
      · simp only [List.length_append, List.length_singleton]; omega
      · simp [accepted]
      · rw [plan, made]
        show d.reserved - 1 = _
        rw [unmade', reserved]
        simp [unmade_cons, target]
        omega
      · simpa [plan, made] using sound'

theorem Docket.Sound.release {d : Docket} (n : Nat) (h : d.Sound) : (d.release n).Sound := by
  unfold Docket.release
  split
  · exact h
  next e found =>
    obtain ⟨rfl, xs, ys, plan, first⟩ := find?_name found
    obtain ⟨room, accepted, reserved, sound⟩ := Docket.sound_iff.1 h
    rw [plan] at sound reserved
    obtain ⟨sound', unmade'⟩ := sound.dropPending first
    refine Docket.sound_iff.2 ⟨?_, accepted, ?_, by simpa [plan] using sound'⟩
    · simp only
      split <;> omega
    · rw [plan, unmade', reserved]
      simp only
      split <;> rfl

theorem Docket.Sound.releaseRecord {d : Docket} (p : Passage) (h : d.Sound) : (d.releaseRecord p).Sound := by
  unfold Docket.releaseRecord
  split
  · exact h.release _
  · exact h

theorem Docket.Sound.count {d : Docket} (p : Passage) (h : d.Sound) : (d.count p).Sound := by
  unfold Docket.count
  split
  · exact h
  · split
    · exact h.commit _
    · exact h

theorem Docket.Sound.foldl_releaseRecord {d : Docket} (ps : List Passage) (h : d.Sound) :
    (ps.foldl (fun d p => d.releaseRecord p) d).Sound := by
  induction ps generalizing d with
  | nil => exact h
  | cons p ps ih => exact ih (h.releaseRecord p)

theorem Docket.Sound.voidRecords {d : Docket} (travel : List Passage) (n : Nat) (h : d.Sound) :
    (d.voidRecords travel n).Sound := h.foldl_releaseRecord _

/-! ### The reservation check (R79) -/

theorem Docket.Sound.newEntry {d : Docket} (h : d.Sound) (k : RunKey) {run : Nat} (plan : d.plan = [])
    (last : run < d.runs.length) : (d.newEntry k (some run)).Sound := by
  obtain ⟨room, accepted, reserved, sound⟩ := Docket.sound_iff.1 h
  refine Docket.sound_iff.2 ⟨room, accepted, ?_, sound.newEntry k fun n hn => ⟨?_, by simp [plan]⟩⟩
  · simpa [Docket.newEntry, unmade_cons] using reserved
  · cases hn; exact last

theorem Docket.Sound.reserveRun {d d' : Docket} {k : RunKey} {n : Nat} (h : d.Sound)
    (reserve : d.reserveRun k = some (d', n)) : d'.Sound := by
  unfold Docket.reserveRun at reserve
  split at reserve
  next hasRoom =>
    cases reserve
    obtain ⟨room, accepted, reserved, sound⟩ := Docket.sound_iff.1 h
    have : d.runs.length + d.reserved < Config.runsMax := of_decide_eq_true hasRoom
    refine Docket.sound_iff.2 ⟨by simp only [Docket.newEntry]; omega, accepted, ?_, sound.newEntry k nofun⟩
    simp [Docket.newEntry, unmade_cons, reserved]
  · cases reserve

theorem Docket.Sound.reserve {d d' : Docket} {k : RunKey} {n : Nat} (h : d.Sound) (reserve : d.reserve k = some (d', n)) :
    d'.Sound := by
  unfold Docket.reserve at reserve
  split at reserve
  next t tail =>
    split at reserve
    · unfold Docket.tail at tail
      split at tail
      next e last =>
        cases tail
        cases reserve
        obtain ⟨xs, plan⟩ := List.getLast?_eq_some_iff.1 last
        obtain ⟨room, accepted, reserved, sound⟩ := Docket.sound_iff.1 h
        have joined : modifyLast (fun x => decide (x.name = e.name)) (fun x => { x with pending := x.pending + 1 }) (xs ++ [e])
            = xs ++ [{ e with pending := e.pending + 1 }] := modifyLast_at (ys := []) (by simp) (by simp)
        rw [plan] at sound reserved
        refine Docket.sound_iff.2 ⟨room, accepted, ?_, ?_⟩
        · simpa [plan, joined, unmade_cons] using reserved
        · have := sound.replace (zs := [{ e with pending := e.pending + 1 }]) (by simp) (by simp)
          simpa [plan, joined] using this
      next empty =>
        obtain ⟨r, hr, rfl⟩ := Option.map_eq_some_iff.1 tail
        cases reserve
        have : d.runs ≠ [] := by rintro none; simp [none] at hr
        exact h.newEntry k (List.getLast?_eq_none_iff.1 empty) (Nat.sub_lt (List.length_pos_of_ne_nil this) Nat.one_pos)
    · exact h.reserveRun reserve
  · exact h.reserveRun reserve

/-! ### Adjusting (R84 to R86) -/

theorem Docket.Sound.add {d : Docket} (k : RunKey) (n : Nat) (h : d.Sound)
    (room : d.needsRun k n = true → d.hasRoom = true) : (d.add k n).Sound := by
  obtain ⟨fits, accepted, reserved, sound⟩ := Docket.sound_iff.1 h
  unfold Docket.add
  simp only
  generalize htaken : min n (d.lastRoom k) = taken
  have grown : ∀ rs : List Run, rs.length = d.runs.length → (rs.map Run.count).sum = d.accepted + taken →
      Docket.Sound { d with runs := if taken < n then rs ++ [⟨k, n - taken⟩] else rs, accepted := d.accepted + n } := by
    intro rs length sum
    by_cases more : taken < n
    · have needs : d.needsRun k n = true := by
        unfold Docket.needsRun Docket.lastRoom at *
        cases last : d.runs.getLast? with
        | none => rfl
        | some r =>
          rw [last] at htaken
          by_cases same : r.key = k
          · simp only [same, if_true] at htaken
            simpa [same] using by omega
          · simp [same]
      have : d.runs.length + d.reserved < Config.runsMax := of_decide_eq_true (room needs)
      refine Docket.sound_iff.2 ⟨?_, ?_, reserved, ?_⟩
      · simp only [if_pos more, List.length_append, List.length_singleton, length]; omega
      · simp only [if_pos more, List.map_append, List.sum_append, sum, List.map_cons, List.map_nil, List.sum_singleton]; omega
      · exact sound.mono (by simp [if_pos more, length]) (Nat.le_refl _)
    · have : taken = n := by omega
      refine Docket.sound_iff.2 ⟨?_, ?_, reserved, ?_⟩
      · simp only [if_neg more, length]; exact fits
      · simp only [if_neg more, sum]; omega
      · exact sound.mono (by simp [if_neg more, length]) (Nat.le_refl _)
  refine grown _ ?_ ?_
  · split <;> simp
  · split
    next pos =>
      have nonempty : d.runs ≠ [] := by
        rintro none
        rw [← htaken] at pos
        simp [Docket.lastRoom, none] at pos
      rw [sum_count_modify taken (Nat.sub_lt (List.length_pos_of_ne_nil nonempty) Nat.one_pos), accepted]
    next zero => rw [accepted]; omega

theorem length_takeNewest (p : Run → Bool) (n : Nat) (rs : List Run) : (takeNewest p n rs).length = rs.length := by
  induction rs generalizing n with
  | nil => rfl
  | cons r rs ih => rw [takeNewest]; split <;> simp [ih]

/-- A removal takes what is asked for, as far as the matching runs hold it. -/
theorem sum_takeNewest (p : Run → Bool) (n : Nat) (rs : List Run) :
    ((takeNewest p n rs).map Run.count).sum + min n ((rs.filter p).map Run.count).sum = (rs.map Run.count).sum := by
  induction rs generalizing n with
  | nil => simp [takeNewest]
  | cons r rs ih =>
    rw [takeNewest]
    split <;> rename_i h
    · have := ih (n - r.count)
      simp only [List.map_cons, List.sum_cons, List.filter_cons_of_pos h]
      omega
    · have := ih n
      simp only [List.map_cons, List.sum_cons, List.filter_cons_of_neg h]
      omega

theorem sum_count_filter_pos (rs : List Run) :
    ((rs.filter fun r => decide (0 < r.count)).map Run.count).sum = (rs.map Run.count).sum := by
  induction rs with
  | nil => rfl
  | cons r rs ih =>
    by_cases h : 0 < r.count
    · rw [List.filter_cons_of_pos (by simpa using h)]; simp [ih]
    · rw [List.filter_cons_of_neg (by simpa using h), ih]; simp; omega

theorem retarget_eq_some {rs : List Run} {k m : Nat} (h : retarget rs k = some m) :
    ∃ r, rs[k]? = some r ∧ 0 < r.count ∧ m = ((rs.take k).filter fun x => decide (0 < x.count)).length := by
  unfold retarget at h
  split at h
  next r hr =>
    split at h
    next pos => exact ⟨r, hr, pos, (Option.some.inj h).symm⟩
    · cases h
  · cases h

/-- The runs that stay in front of index `k + 1`, when the run at `k` stays. -/
theorem length_filter_take_succ {rs : List Run} {k : Nat} {r : Run} (hr : rs[k]? = some r) (pos : 0 < r.count) :
    ((rs.take (k + 1)).filter fun x => decide (0 < x.count)).length
      = ((rs.take k).filter fun x => decide (0 < x.count)).length + 1 := by
  rw [List.take_add_one, hr, List.filter_append]
  simp [pos]

theorem retarget_lt {rs : List Run} {k m : Nat} (h : retarget rs k = some m) :
    m < (rs.filter fun x => decide (0 < x.count)).length := by
  obtain ⟨r, hr, pos, rfl⟩ := retarget_eq_some h
  have := ((List.take_sublist (k + 1) rs).filter fun x => decide (0 < x.count)).length_le
  rw [length_filter_take_succ hr pos] at this
  exact this

/-- Targets keep their order, so no two meet. -/
theorem retarget_lt_of_lt {rs : List Run} {k l m n : Nat} (hk : retarget rs k = some m) (hl : retarget rs l = some n)
    (h : k < l) : m < n := by
  obtain ⟨r, hr, pos, rfl⟩ := retarget_eq_some hk
  obtain ⟨-, -, -, rfl⟩ := retarget_eq_some hl
  have := ((List.take_sublist_take_left (l := rs) h).filter fun x => decide (0 < x.count)).length_le
  rw [length_filter_take_succ hr pos] at this
  exact this

theorem retarget_injective {rs : List Run} {k l m : Nat} (hk : retarget rs k = some m) (hl : retarget rs l = some m) :
    k = l := by
  rcases Nat.lt_trichotomy k l with h | h | h
  · exact absurd (retarget_lt_of_lt hk hl h) (Nat.lt_irrefl _)
  · exact h
  · exact absurd (retarget_lt_of_lt hl hk h) (Nat.lt_irrefl _)

/-- The indexes that lose their run, and the runs that stay, make up the list. -/
theorem length_lost_add_stay (rs : List Run) :
    ((List.range rs.length).filter fun k => (retarget rs k).isNone).length
      + (rs.filter fun x => decide (0 < x.count)).length = rs.length := by
  have lost (k : Nat) (hk : k < rs.length) : (retarget rs k).isNone = !decide (0 < (rs[k]).count) := by
    simp only [retarget, List.getElem?_eq_getElem hk]
    split <;> simp_all
  have stay : (rs.filter fun x => decide (0 < x.count)).length
      = ((List.range rs.length).filter fun k => !(retarget rs k).isNone).length := by
    have map : rs = (List.range rs.length).pmap (fun k hk => rs[k]) fun k hk => List.mem_range.1 hk := by
      refine List.ext_getElem (by simp) fun i h _ => by simp
    rw [← List.countP_eq_length_filter, ← List.countP_eq_length_filter]
    conv_lhs => rw [map]
    rw [List.countP_pmap]
    rw [← List.countP_attach (l := List.range rs.length)]
    refine List.countP_congr fun k _ => ?_
    simp [lost k.1 (List.mem_range.1 k.2)]
  have both := List.length_eq_length_filter_add (l := List.range rs.length) fun k => (retarget rs k).isNone
  rw [List.length_range] at both
  rw [stay, ← both]

/-- Entries whose run is deleted become unmade. -/
theorem unmade_map_retarget (rs : List Run) (plan : List PlanEntry) :
    unmade (plan.map fun e => { e with target := e.target.bind (retarget rs) })
      = unmade plan + (plan.filter fun e => e.target.isSome && (e.target.bind (retarget rs)).isNone).length := by
  induction plan with
  | nil => rfl
  | cons e plan ih =>
    rw [List.map_cons, unmade_cons, unmade_cons, ih, List.filter_cons]
    cases e.target with
    | none => simp [Nat.add_assoc]
    | some k =>
      cases hk : retarget rs k with
      | none => simp [hk]; omega
      | some m => simp [hk]

theorem PlanSound.retarget {runs next : Nat} {plan : List PlanEntry} (h : PlanSound runs next plan) (rs : List Run) :
    PlanSound (rs.filter fun x => decide (0 < x.count)).length next
      (plan.map fun e => { e with target := e.target.bind (retarget rs) }) := by
  have back {x : PlanEntry} (hx : x ∈ plan.map fun e => { e with target := e.target.bind (Machine.retarget rs) }) :
      ∃ e ∈ plan, x = { e with target := e.target.bind (Machine.retarget rs) } := by
    obtain ⟨e, he, rfl⟩ := List.mem_map.1 hx
    exact ⟨e, he, rfl⟩
  refine ⟨by rw [List.map_map]; exact h.names, ?_, fun x hx => ?_, fun x hx => ?_, fun x hx k hk => ?_⟩
  · have : (plan.map fun e => { e with target := e.target.bind (Machine.retarget rs) }).filterMap PlanEntry.target
        = (plan.filterMap PlanEntry.target).filterMap (Machine.retarget rs) := by
      rw [List.filterMap_map, List.filterMap_filterMap]
      rfl
    rw [this]
    exact h.targets.filterMap fun k l m hk hl => retarget_injective hk hl
  · obtain ⟨e, he, rfl⟩ := back hx
    exact h.given e he
  · obtain ⟨e, he, rfl⟩ := back hx
    exact h.pending e he
  · obtain ⟨e, he, rfl⟩ := back hx
    obtain ⟨l, -, hl⟩ := Option.bind_eq_some_iff.1 hk
    exact retarget_lt hl

/-- No more entries become unmade than runs are deleted. -/
theorem PlanSound.length_unmade_le {next : Nat} {plan : List PlanEntry} {rs : List Run}
    (h : PlanSound rs.length next plan) :
    (plan.filter fun e => e.target.isSome && (e.target.bind (Machine.retarget rs)).isNone).length
      + (rs.filter fun x => decide (0 < x.count)).length ≤ rs.length := by
  set lost := plan.filter fun e => e.target.isSome && (e.target.bind (Machine.retarget rs)).isNone with hlost
  have targets : (lost.filterMap PlanEntry.target).length = lost.length := by
    rw [List.length_filterMap_eq_countP, List.countP_eq_length]
    intro e he
    have := (List.mem_filter.1 he).2
    simp only [Bool.and_eq_true] at this
    exact this.1
  have nodup : (lost.filterMap PlanEntry.target).Nodup := h.targets.sublist (List.filter_sublist.filterMap _)
  have sub : lost.filterMap PlanEntry.target ⊆ (List.range rs.length).filter fun k => (Machine.retarget rs k).isNone := by
    intro k hk
    obtain ⟨e, he, hek⟩ := List.mem_filterMap.1 hk
    obtain ⟨mem, gone⟩ := List.mem_filter.1 he
    rw [hek] at gone
    exact List.mem_filter.2 ⟨List.mem_range.2 (h.made e mem k hek), by simpa using gone⟩
  have := (List.subperm_of_subset nodup sub).length_le
  have := length_lost_add_stay rs
  omega

theorem Docket.Sound.remove {d : Docket} (p : Run → Bool) (n : Nat) (h : d.Sound)
    (held : n ≤ ((d.runs.filter p).map Run.count).sum) : (d.remove p n).Sound := by
  obtain ⟨room, accepted, reserved, sound⟩ := Docket.sound_iff.1 h
  have length : ((takeNewest p n d.runs.reverse).reverse).length = d.runs.length := by
    simp [length_takeNewest]
  have sum : ((takeNewest p n d.runs.reverse).reverse.map Run.count).sum + n = (d.runs.map Run.count).sum := by
    have := sum_takeNewest p n d.runs.reverse
    simp only [List.filter_reverse, List.map_reverse, List.sum_reverse] at this ⊢
    omega
  rw [← length] at sound
  unfold Docket.remove
  simp only
  generalize (takeNewest p n d.runs.reverse).reverse = lowered at *
  have := sound.length_unmade_le
  refine Docket.sound_iff.2 ⟨?_, ?_, ?_, sound.retarget lowered⟩
  · simp only; omega
  · simp only [sum_count_filter_pos]; omega
  · simp only [unmade_map_retarget, reserved]

/-! ### What a docket keeps of its method and state -/

@[simp] theorem Docket.method_commit (d : Docket) (n : Nat) : (d.commit n).method = d.method := by
  unfold Docket.commit
  split
  · rfl
  · split <;> rfl

@[simp] theorem Docket.state_commit (d : Docket) (n : Nat) : (d.commit n).state = d.state := by
  unfold Docket.commit
  split
  · rfl
  · split <;> rfl

@[simp] theorem Docket.method_releaseRecord (d : Docket) (p : Passage) : (d.releaseRecord p).method = d.method := by
  unfold Docket.releaseRecord Docket.release
  split
  · split <;> rfl
  · rfl

@[simp] theorem Docket.state_releaseRecord (d : Docket) (p : Passage) : (d.releaseRecord p).state = d.state := by
  unfold Docket.releaseRecord Docket.release
  split
  · split <;> rfl
  · rfl

@[simp] theorem Docket.method_count (d : Docket) (p : Passage) : (d.count p).method = d.method := by
  unfold Docket.count
  split
  · rfl
  · split <;> simp

@[simp] theorem Docket.state_count (d : Docket) (p : Passage) : (d.count p).state = d.state := by
  unfold Docket.count
  split
  · rfl
  · split <;> simp

theorem Docket.foldl_releaseRecord_frame (ps : List Passage) (d : Docket) :
    (ps.foldl (fun d p => d.releaseRecord p) d).method = d.method
      ∧ (ps.foldl (fun d p => d.releaseRecord p) d).state = d.state := by
  induction ps generalizing d with
  | nil => exact ⟨rfl, rfl⟩
  | cons p ps ih =>
    obtain ⟨method, state⟩ := ih (d.releaseRecord p)
    exact ⟨method.trans (d.method_releaseRecord p), state.trans (d.state_releaseRecord p)⟩

@[simp] theorem Docket.method_voidRecords (d : Docket) (travel : List Passage) (n : Nat) :
    (d.voidRecords travel n).method = d.method := (Docket.foldl_releaseRecord_frame _ d).1

@[simp] theorem Docket.state_voidRecords (d : Docket) (travel : List Passage) (n : Nat) :
    (d.voidRecords travel n).state = d.state := (Docket.foldl_releaseRecord_frame _ d).2

theorem Docket.reserve_frame {d d' : Docket} {k : RunKey} {n : Nat} (h : d.reserve k = some (d', n)) :
    d'.method = d.method ∧ d'.state = d.state := by
  have ofRun (h : d.reserveRun k = some (d', n)) : d'.method = d.method ∧ d'.state = d.state := by
    unfold Docket.reserveRun at h
    split at h
    · cases h; exact ⟨rfl, rfl⟩
    · cases h
  unfold Docket.reserve at h
  split at h
  · split at h
    · split at h
      · cases h; exact ⟨rfl, rfl⟩
      · cases h; exact ⟨rfl, rfl⟩
    · exact ofRun h
  · exact ofRun h

end Sys2Proof.Machine
end

section
/-! PROOF. What homing, holding, settling and closing keep of a lane and its docket. -/

namespace Sys2Proof.Machine

/-! ### Hold reasons (R58) -/

@[simp] theorem HoldSet.has_add_self (h : HoldSet) (r : HoldReason) : (h.add r).has r = true := by cases r <;> rfl

theorem HoldSet.ne_empty_of_has {h : HoldSet} {r : HoldReason} (hr : h.has r = true) : h ≠ HoldSet.empty := by
  rintro rfl
  simp at hr

/-! ### A sound lane (R55) -/

/-- A lane that is not in service has nothing in flight; so what is not clear is RUNNING. -/
theorem Lane.Sound.running_of_not_clear {l : Lane} (h : l.Sound) (busy : l.clear = false) : l.state = .running := by
  obtain ⟨-, idle, -⟩ := h
  by_contra other
  obtain ⟨span, travel⟩ := idle other
  simp [Lane.clear, span, travel] at busy

theorem Lane.clear_iff {l : Lane} : l.clear = true ↔ l.span = [] ∧ l.travel = [] := by
  simp [Lane.clear]

/-- A lane with nothing in flight, its hold reasons as its state asks, and a docket where its state asks, that is not CLOSING, is
sound. -/
theorem Lane.sound_of_clear {l : Lane} (holds : l.state = .held ↔ l.holds ≠ HoldSet.empty) (clear : l.span = [] ∧ l.travel = [])
    (off : l.state = .off → l.docket = none) (served : l.state = .homing ∨ l.state = .running → l.docket.isSome)
    (open_ : l.notClosing) : l.Sound :=
  ⟨holds, fun _ => clear, off, served, fun _ => open_, by simp [clear.1], by simp [clear.2]⟩

/-- A lane that stays RUNNING, its hold reasons and the presence of its docket as they were, its lists within their places. -/
theorem Lane.Sound.of_running {l l' : Lane} (h : l.Sound) (was : l.state = .running) (is : l'.state = .running)
    (holds : l'.holds = l.holds) (docket : l'.docket.isSome = l.docket.isSome) (span : l'.span.length ≤ Config.spanMax)
    (travel : l'.travel.length ≤ Config.travelMax) : l'.Sound := by
  obtain ⟨held, -, -, served, -, -, -⟩ := h
  refine ⟨?_, fun out => absurd is out, ?_, fun _ => ?_, fun out => absurd is out, span, travel⟩
  · rw [is, holds]; rw [was] at held; exact held
  · rw [is]; nofun
  · rw [docket]; exact served (.inr was)

/-! ### Homing and running (R41 to R43, R57) -/

theorem State.keeps_beginStep (i : LaneId) (side : Side) (s : State) : Keeps s (s.beginStep i side) := .modDiverter _ _ _

theorem State.keeps_settleHome (i : LaneId) (t : Tick) (s : State) : Keeps s (s.settleHome i t) := .modDiverter _ _ _

theorem State.keeps_showHome (i : LaneId) (s : State) : Keeps s (s.showHome i) :=
  (State.keeps_settleHome i _ s).trans (.modDiverter _ _ _)

theorem State.keeps_tellHome (i : LaneId) (home : Bool) (s : State) : Keeps s (s.tellHome i home) :=
  (State.keeps_settleHome i _ s).trans (.modDiverter _ _ _)

theorem State.keeps_enterRunning {i : LaneId} {s : State} (h : (s.lane i).state = .homing) : Keeps s (s.enterRunning i) := by
  refine .modLane ⟨.of_docket rfl, fun sound => ?_⟩
  obtain ⟨held, idle, -, served, open_, -, -⟩ := sound
  refine Lane.sound_of_clear ?_ (idle (by simp [h])) nofun (fun _ => served (.inl h)) (open_ (by simp [h]))
  rw [h] at held
  simpa using held

theorem State.keeps_homeFound {i : LaneId} {s : State} (h : (s.lane i).state = .homing) : Keeps s (s.homeFound i) :=
  (Keeps.modDiverter _ _ _).trans (State.keeps_enterRunning (by simpa using h))

/-- Homing begins on a lane with nothing in flight, no hold reason, and a docket that is not CLOSING. -/
theorem State.lanes_beginHoming {i : LaneId} {s : State} (holds : (s.lane i).holds = HoldSet.empty)
    (clear : (s.lane i).span = [] ∧ (s.lane i).travel = []) (docket : (s.lane i).docket.isSome) (open_ : (s.lane i).notClosing)
    (others : ∀ j, j ≠ i → (s.lane j).Sound) : LanesSound (s.beginHoming i) := by
  have homing : LanesSound ((s.modLane i fun l => { l with state := .homing }).modDiverter i fun v =>
      { v with homed := false, homingCount := 0, step := none }) := by
    intro j
    by_cases hj : j = i
    · subst hj
      rw [State.lane_modDiverter_self, State.lane_modLane_self]
      exact Lane.sound_of_clear (by simp [holds]) clear nofun (fun _ => docket) open_
    · simpa [State.modDiverter, State.lane_modLane_ne _ (Ne.symm hj)] using others j hj
  unfold State.beginHoming
  simp only
  split
  · exact (State.keeps_homeFound (by simp)).lanes homing
  · exact (State.keeps_beginStep _ _ _).lanes homing

/-- `t` is `s` but for lane `i` beside its docket and for what no invariant reads. -/
structure OnLane (i : LaneId) (s t : State) : Prop extends Rest s t where
  others : ∀ j, j ≠ i → t.lane j = s.lane j
  docket : (t.lane i).docket = (s.lane i).docket

theorem OnLane.trans {i : LaneId} {s t u : State} (h : OnLane i s t) (k : OnLane i t u) : OnLane i s u :=
  ⟨h.toRest.trans k.toRest, fun j hj => (k.others j hj).trans (h.others j hj), k.docket.trans h.docket⟩

theorem OnLane.modLane {s : State} {i : LaneId} {f : Lane → Lane} (h : (f (s.lane i)).docket = (s.lane i).docket) :
    OnLane i s (s.modLane i f) :=
  ⟨.modLane s i f, fun _ hj => s.lane_modLane_ne hj.symm f, by rw [State.lane_modLane_self]; exact h⟩

theorem OnLane.modDiverter (s : State) (i : LaneId) (f : Diverter → Diverter) : OnLane i s (s.modDiverter i f) := .modLane rfl

theorem State.onLane_homeFound (i : LaneId) (s : State) : OnLane i s (s.homeFound i) :=
  (OnLane.modDiverter _ _ _).trans (show OnLane i _ (State.enterRunning i _) from .modLane rfl)

/-- Homing's start changes its own lane alone, and no docket. -/
theorem State.onLane_startHoming (i : LaneId) (s : State) : OnLane i s (s.startHoming i) := by
  have begin_ : OnLane i s (((s.settleHome i s.tick).modLane i fun l => { l with state := .homing }).modDiverter i fun v =>
      { v with homed := false, homingCount := 0, step := none }) :=
    (OnLane.modDiverter _ _ _).trans (.trans (.modLane rfl) (.modDiverter _ _ _))
  unfold State.startHoming State.beginHoming
  simp only
  split
  · exact begin_.trans (State.onLane_homeFound i _)
  · exact begin_.trans (.modDiverter _ _ _)

theorem State.lanes_startHoming {i : LaneId} {s : State} (holds : (s.lane i).holds = HoldSet.empty)
    (clear : (s.lane i).span = [] ∧ (s.lane i).travel = []) (docket : (s.lane i).docket.isSome) (open_ : (s.lane i).notClosing)
    (others : ∀ j, j ≠ i → (s.lane j).Sound) : LanesSound (s.startHoming i) := by
  refine State.lanes_beginHoming ?_ ?_ ?_ ?_ fun j hj => ?_
  · simpa [State.settleHome] using holds
  · simpa [State.settleHome] using clear
  · simpa [State.settleHome] using docket
  · rw [State.settleHome, State.lane_modDiverter_self]; exact open_
  · simpa [State.settleHome, State.modDiverter, State.lane_modLane_ne _ (Ne.symm hj)] using others j hj

/-! ### Holding a lane (R58 to R60) -/

/-- What a hold leaves of the lane, whatever it finds. -/
structure Lane.HeldFrom (l l' : Lane) (r : HoldReason) : Prop where
  state : l'.state = .held
  holds : l'.holds.has r = true
  clear : l'.span = [] ∧ l'.travel = []
  docket : l'.docket = l.docket.map (Docket.voidRecords l.travel l.voids)

theorem Rest.raiseLane (s : State) (i : LaneId) (f : LaneFlags → LaneFlags) : Rest s (s.raiseLane i f) :=
  (Rest.modLane s i _).trans (Unseen.join _ _).toRest

theorem State.lane_raiseLane_ne {s : State} {i j : LaneId} (h : j ≠ i) (f : LaneFlags → LaneFlags) :
    (s.raiseLane i f).lane j = s.lane j := by
  rw [State.raiseLane, State.lane_join, State.lane_modLane_ne s h.symm]

theorem State.rest_addHold (i : LaneId) (r : HoldReason) (s : State) : Rest s (s.addHold i r) := by
  unfold State.addHold
  split
  · exact .refl s
  · exact (Rest.modLane _ _ _).trans (.raiseLane _ _ _)

theorem State.lane_addHold_ne {s : State} {i j : LaneId} (h : j ≠ i) (r : HoldReason) : (s.addHold i r).lane j = s.lane j := by
  unfold State.addHold
  split
  · rfl
  · rw [State.lane_raiseLane_ne h, State.lane_modLane_ne s h.symm]

/-- Adding a reason changes the set and the flags of a lane alone. -/
theorem State.lane_addHold_self (s : State) (i : LaneId) (r : HoldReason) :
    ∃ h f, h.has r = true ∧ (s.addHold i r).lane i = { s.lane i with holds := h, flags := f } := by
  unfold State.addHold
  split
  next has => exact ⟨_, _, has, rfl⟩
  · exact ⟨_, _, HoldSet.has_add_self _ r, by rw [State.lane_raiseLane_self, State.lane_modLane_self]⟩

theorem State.keeps_addHold {i : LaneId} {s : State} (r : HoldReason) (held : (s.lane i).state = .held) :
    Keeps s (s.addHold i r) := by
  obtain ⟨h, f, has, eq⟩ := s.lane_addHold_self i r
  refine .of_lane (State.rest_addHold i r s) (fun j hj => State.lane_addHold_ne hj r) ⟨.of_docket (by rw [eq]), ?_⟩
  rw [eq]
  rintro ⟨-, rest⟩
  exact ⟨iff_of_true held (HoldSet.ne_empty_of_has has), rest⟩

theorem State.rest_holdLane (i : LaneId) (r : HoldReason) (s : State) : Rest s (s.holdLane i r) := by
  have added := (Rest.modLane s i Lane.hold).trans (State.rest_addHold i r _)
  unfold State.holdLane State.raiseVoided
  split
  · exact added
  · exact added.trans (.raiseLane _ _ _)

theorem State.lane_holdLane_ne {s : State} {i j : LaneId} (h : j ≠ i) (r : HoldReason) :
    (s.holdLane i r).lane j = s.lane j := by
  have added : ((s.modLane i Lane.hold).addHold i r).lane j = s.lane j := by
    rw [State.lane_addHold_ne h, State.lane_modLane_ne s h.symm]
  unfold State.holdLane State.raiseVoided
  split
  · exact added
  · rw [State.lane_raiseLane_ne h, added]

theorem State.lane_holdLane_self (s : State) (i : LaneId) (r : HoldReason) :
    (s.lane i).HeldFrom ((s.holdLane i r).lane i) r := by
  obtain ⟨h, f, has, eq⟩ := (s.modLane i Lane.hold).lane_addHold_self i r
  rw [State.lane_modLane_self] at eq
  unfold State.holdLane State.raiseVoided
  split
  · rw [eq]; exact ⟨rfl, has, ⟨rfl, rfl⟩, rfl⟩
  · rw [State.lane_raiseLane_self, eq]; exact ⟨rfl, has, ⟨rfl, rfl⟩, rfl⟩

theorem Lane.HeldFrom.follows {l l' : Lane} {r : HoldReason} (h : l.HeldFrom l' r) : l.Follows l' :=
  .of_map h.docket (by simp) fun _ hd => hd.voidRecords _ _

theorem Lane.HeldFrom.sound {l l' : Lane} {r : HoldReason} (h : l.HeldFrom l' r) (open_ : l'.notClosing) : l'.Sound :=
  Lane.sound_of_clear (iff_of_true h.state (HoldSet.ne_empty_of_has h.holds)) h.clear (by simp [h.state]) (by simp [h.state])
    open_

/-! ### Settlement of a lane's docket (R64, R90, R112, R120, R121) -/

theorem splitCredit_payout_le (applied : Method) (a : Account) (unit c : Nat) :
    (splitCredit applied a unit c).payout ≤ a.dayCap - a.paidToday := by
  unfold splitCredit
  split
  · exact Nat.zero_le _
  · exact (PayMethod.round_le _ _ _).trans (Nat.min_le_right _ _)

theorem lowerOutstanding_le (ls : List SettlementLine) (o : Vector Nat 24) {top : Nat} (h : ∀ n ∈ o.toList, n ≤ top) :
    ∀ n ∈ (lowerOutstanding o ls).toList, n ≤ top := by
  induction ls generalizing o with
  | nil => exact h
  | cons l ls ih =>
    refine ih _ fun n hn => ?_
    rw [Vector.mem_toList_iff] at hn
    obtain ⟨i, hi, rfl⟩ := Vector.mem_iff_getElem.1 hn
    have old : o[i] ≤ top := h _ (Vector.mem_toList_iff.2 (Vector.getElem_mem hi))
    rw [Vector.getElem_setIfInBounds hi]
    split
    next same =>
      subst same
      rw [Vector.getElem?_eq_getElem hi]
      exact (Nat.sub_le _ _).trans old
    · exact old

theorem Account.InRange.settle {a : Account} (h : a.InRange) (types : Vector TypeEntry 24) (unit : Nat) (m : Method)
    (runs : List Run) : (a.settle (computeSettlement types unit a m runs)).InRange := by
  obtain ⟨low, high, cap, paid, credit, counts⟩ := h
  refine ⟨low, high, cap, ?_, Nat.min_le_right _ _, lowerOutstanding_le _ _ counts⟩
  have : (computeSettlement types unit a m runs).payout ≤ a.dayCap - a.paidToday := splitCredit_payout_le _ _ _ _
  show a.paidToday + _ ≤ a.dayCap
  omega

theorem State.account_modAccount (s : State) (a b : Nat) (f : Account → Account) :
    (s.modAccount a f).account b = if a = b then (s.account b).map f else s.account b := by
  simp only [State.account, State.modAccount, Vector.getElem?_setIfInBounds]
  split
  next same =>
    subst same
    split
    · rfl
    next out => simp [Vector.getElem?_eq_none (Nat.not_lt.1 out)]
  · rfl

/-- A change of one account that keeps its number and its ranges. -/
theorem AccountsSound.modAccount {s : State} {a : Nat} {f : Account → Account} (number : ∀ x, (f x).number = x.number)
    (range : ∀ x, s.account a = some x → x.InRange → (f x).InRange) (h : AccountsSound s) :
    AccountsSound (s.modAccount a f) := by
  have back {b : Nat} {y : Account} (hy : (s.modAccount a f).account b = some y) :
      ∃ x, s.account b = some x ∧ x.number = y.number ∧ (x.InRange → y.InRange) := by
    rw [State.account_modAccount] at hy
    split at hy
    next same =>
      obtain ⟨x, hx, rfl⟩ := Option.map_eq_some_iff.1 hy
      exact ⟨x, hx, (number x).symm, range x (same ▸ hx)⟩
    · exact ⟨y, hy, rfl, id⟩
  obtain ⟨ranges, numbers⟩ := h
  constructor
  · intro b y hy
    obtain ⟨x, hx, -, hr⟩ := back hy
    exact hr (ranges b x hx)
  · intro b c y z hy hz same
    obtain ⟨x, hx, hxy, -⟩ := back hy
    obtain ⟨w, hw, hwz, -⟩ := back hz
    exact numbers b c x w hx hw (by rw [hxy, hwz, same])

theorem Keeps.modAccount {s : State} {a : Nat} {f : Account → Account} (number : ∀ x, (f x).number = x.number)
    (range : ∀ x, s.account a = some x → x.InRange → (f x).InRange) : Keeps s (s.modAccount a f) :=
  ⟨⟨rfl, id, .modAccount number range, id, id, id⟩, id, id⟩

theorem Unseen.storeSettlement (s : State) (r : Settlement) : Unseen s (s.storeSettlement r) :=
  ⟨⟨rfl, rfl, rfl, rfl, rfl, rfl, rfl, rfl, rfl, rfl, rfl, id⟩, rfl⟩

theorem State.keeps_settle (d : Docket) (s : State) : Keeps s (s.modAccount d.account (Account.settle (s.computed d))) := by
  refine .modAccount (fun _ => rfl) fun x hx range => ?_
  rw [State.computed, hx]
  exact range.settle _ _ _ _

/-- Steps 4 to 6 of a settlement: beside the account, an order more when one is made. -/
theorem State.settleAccount_spec (i : LaneId) (d : Docket) (s : State) :
    KeepsBooks s (s.settleAccount i d) ∧ (s.settleAccount i d).lanes = s.lanes
      ∧ (s.settleAccount i d).queue.commitments = s.queue.commitments
      ∧ (s.settleAccount i d).balance = s.balance - (if (s.computed d).order?.isSome then 1 else 0) := by
  have settled := s.keeps_settle d
  unfold State.settleAccount
  simp only
  split
  next m p made =>
    refine ⟨settled.toKeepsBooks.trans ((State.books_appendOrder _ _ _ _ _).trans
      (Unseen.storeSettlement _ _).keeps.toKeepsBooks), rfl, rfl, ?_⟩
    rw [made]
    exact State.balance_appendOrder _ _ _ _ _
  next made =>
    refine ⟨settled.toKeepsBooks.trans (Unseen.storeSettlement _ _).keeps.toKeepsBooks, rfl, rfl, ?_⟩
    rw [made]
    exact (sub_zero _).symm

/-- A settlement that makes an order is of a docket that was a commitment. -/
theorem State.method_of_order {s : State} {d : Docket} (h : (s.computed d).order?.isSome) : d.method ≠ .account := by
  intro account
  have : (s.computed d).applied.pay? = none := by
    simp only [State.computed, computeSettlement, appliedMethod, account, Method.pay?]
  unfold Computed.order? at h
  split at h
  · rw [this] at h; cases h
  · cases h

/-- A lane after its docket has settled, with the flag. -/
def Lane.settled (d : Docket) (l : Lane) : Lane :=
  { l.afterSettlement d with flags := { (l.afterSettlement d).flags with settled := true } }

theorem Lane.docket_settled (d : Docket) (l : Lane) : (l.settled d).docket = none := by
  unfold Lane.settled Lane.afterSettlement
  simp only
  split <;> rfl

/-- What is left of a lane with nothing in flight when its docket has settled is sound. -/
theorem Lane.sound_settled {l : Lane} (d : Docket) (holds : l.state = .held ↔ l.holds ≠ HoldSet.empty)
    (clear : l.span = [] ∧ l.travel = []) : (l.settled d).Sound := by
  have gone := l.docket_settled d
  have open_ : (l.settled d).notClosing := by unfold Lane.notClosing; rw [gone]; nofun
  unfold Lane.settled Lane.afterSettlement at *
  simp only at *
  split at gone <;> rename_i hs
  · rw [if_pos hs] at open_ ⊢
    exact Lane.sound_of_clear holds clear (by simp [hs]) (by simp [hs]) open_
  · rw [if_neg hs] at open_ ⊢
    refine Lane.sound_of_clear ?_ clear (fun _ => rfl) (by simp) open_
    have := mt holds.2 hs
    simpa [Lane.stopService] using not_not.1 this

theorem Lane.commits_of_docket {l : Lane} {d : Docket} (h : l.docket = some d) :
    l.commits = if d.method = .account then 0 else 1 := by
  by_cases hm : d.method = .account <;> simp [Lane.commits, h, hm]

theorem Lane.commits_of_none {l : Lane} (h : l.docket = none) : l.commits = 0 := by simp [Lane.commits, h]

theorem CommitmentsCounted.pos_of_lane {s : State} {i : LaneId} (h : CommitmentsCounted s) (c : 0 < (s.lane i).commits) :
    0 < s.queue.commitments := by
  rw [commitmentsCounted_iff, State.balance] at h
  have : ((s.lane i).commits : Int) ≤ ∑ j, ((s.lane j).commits : Int) :=
    Finset.single_le_sum (f := fun j => ((s.lane j).commits : Int)) (fun j _ => Int.natCast_nonneg _) (Finset.mem_univ i)
  omega

/-- What a settlement does to the lanes: its own loses the docket and follows, the others stay. -/
theorem State.lane_settleDocket {s : State} {i : LaneId} {d : Docket} (hd : (s.lane i).docket = some d) (j : LaneId) :
    (s.settleDocket i).lane j = if j = i then (s.lane i).settled d else s.lane j := by
  have booked (j : LaneId) : (s.settleAccount i d).lane j = s.lane j := by
    simp only [State.lane, (State.settleAccount_spec i d s).2.1]
  have removed : (((s.settleAccount i d).modLane i (Lane.afterSettlement d)).raiseLane i fun f =>
      { f with settled := true }).lane j = if j = i then (s.lane i).settled d else s.lane j := by
    split
    next same => subst same; rw [State.lane_raiseLane_self, State.lane_modLane_self, booked]; rfl
    next other => rw [State.lane_raiseLane_ne other, State.lane_modLane_ne _ (Ne.symm other), booked]
  unfold State.settleDocket
  rw [hd]
  simp only
  rw [← removed]
  split <;> split <;> simp [State.lane]

theorem State.keepsBooks_settleDocket (i : LaneId) (s : State) : KeepsBooks s (s.settleDocket i) := by
  unfold State.settleDocket
  split
  · exact .refl s
  next d hd =>
    simp only
    have booked := (State.settleAccount_spec i d s).1
    have removed : KeepsBooks (s.settleAccount i d) (((s.settleAccount i d).modLane i (Lane.afterSettlement d)).raiseLane i
        fun f => { f with settled := true }) := by
      refine .of_lane (i := i) ((Rest.modLane _ _ _).trans (.raiseLane _ _ _)) (fun j hj => ?_) fun _ => ?_
      · rw [State.lane_raiseLane_ne hj, State.lane_modLane_ne _ hj.symm]
      · have gone := Lane.docket_settled d ((s.settleAccount i d).lane i)
        rw [State.lane_raiseLane_self, State.lane_modLane_self]
        exact fun d' hd' => absurd (gone.symm.trans hd') nofun
    refine (booked.trans removed).trans ?_
    split
    · split
      · exact (Keeps.books_dropCommitment _).trans (State.unseen_arbitrate _).keeps.toKeepsBooks
      · exact (State.unseen_arbitrate _).keeps.toKeepsBooks
    · split
      · exact Keeps.books_dropCommitment _
      · exact .refl _

theorem Unseen.balance {s t : State} (h : Unseen s t) : t.balance = s.balance := by
  rw [h.toRest.balance (i := 0) fun j _ => h.lane j, h.lane]
  ring

theorem State.commitments_settleDocket (i : LaneId) {s : State} (h : CommitmentsCounted s) :
    CommitmentsCounted (s.settleDocket i) := by
  have pos := h.pos_of_lane (i := i)
  rw [commitmentsCounted_iff] at h ⊢
  unfold State.settleDocket
  split
  · exact h
  next d hd =>
    simp only
    obtain ⟨-, lanes, count, balance⟩ := State.settleAccount_spec i d s
    have booked (j : LaneId) : (s.settleAccount i d).lane j = s.lane j := by simp only [State.lane, lanes]
    have removed : (((s.settleAccount i d).modLane i (Lane.afterSettlement d)).raiseLane i fun f =>
        { f with settled := true }).balance
          = (s.settleAccount i d).balance + (if d.method = .account then 0 else 1) := by
      have self : (((s.settleAccount i d).modLane i (Lane.afterSettlement d)).raiseLane i fun f =>
          { f with settled := true }).lane i = (s.lane i).settled d := by
        rw [State.lane_raiseLane_self, State.lane_modLane_self, booked]; rfl
      rw [((Rest.modLane _ i _).trans (.raiseLane _ _ _)).balance (i := i) fun j hj => by
          rw [State.lane_raiseLane_ne hj, State.lane_modLane_ne _ hj.symm],
        self, booked, Lane.commits_of_docket hd,
        Lane.commits_of_none (Lane.docket_settled d (s.lane i))]
      push_cast
      ring
    rw [balance, h] at removed
    rw [Lane.commits_of_docket hd] at pos
    by_cases made : (s.computed d).order?.isSome = true
    · rw [if_pos made, if_neg (by simp [made]), (State.unseen_arbitrate _).balance, removed, if_pos made,
        if_neg (State.method_of_order made)]
      rfl
    · rw [if_neg made]
      by_cases account : d.method = .account
      · rw [if_neg (by simp [account]), removed, if_neg made, if_pos account]; rfl
      · rw [if_pos ⟨account, made⟩, State.balance_dropCommitment, removed, if_neg made, if_neg account]
        · rfl
        · show 0 < (s.settleAccount i d).queue.commitments
          rw [count]
          exact pos (by simp [account])

/-- A settlement on a lane with nothing in flight. -/
theorem State.lanes_settleDocket {s : State} {i : LaneId} (docket : (s.lane i).docket.isSome)
    (holds : (s.lane i).state = .held ↔ (s.lane i).holds ≠ HoldSet.empty) (clear : (s.lane i).span = [] ∧ (s.lane i).travel = [])
    (others : ∀ j, j ≠ i → (s.lane j).Sound) : LanesSound (s.settleDocket i) := by
  obtain ⟨d, hd⟩ := Option.isSome_iff_exists.1 docket
  intro j
  rw [State.lane_settleDocket hd]
  split
  · exact Lane.sound_settled d holds clear
  next other => exact others j other

theorem State.keepsBooks_settleIfClosing (i : LaneId) (s : State) : KeepsBooks s (s.settleIfClosing i) := by
  unfold State.settleIfClosing
  split
  · exact State.keepsBooks_settleDocket i s
  · exact .refl s

theorem State.commitments_settleIfClosing (i : LaneId) {s : State} (h : CommitmentsCounted s) :
    CommitmentsCounted (s.settleIfClosing i) := by
  unfold State.settleIfClosing
  split
  · exact State.commitments_settleDocket i h
  · exact h

/-! ### Entry to HELD and faults (R59, R60) -/

theorem Rest.commitmentsCounted {s t : State} (rest : Rest s t) {i : LaneId} (others : ∀ j, j ≠ i → t.lane j = s.lane j)
    (follows : (s.lane i).Follows (t.lane i)) (h : CommitmentsCounted s) : CommitmentsCounted t := by
  rw [commitmentsCounted_iff] at h ⊢
  rw [rest.balance others, follows.commits, h]
  ring

/-- A lane is CLOSING or not. -/
theorem Lane.notClosing_iff {l : Lane} : l.notClosing ↔ l.docket.map Docket.state ≠ some .closing := by
  unfold Lane.notClosing
  cases l.docket <;> simp

theorem State.keeps_enterHeld (i : LaneId) {r : HoldReason} (hr : r ≠ .cancelled) (s : State) : Keeps s (s.enterHeld i r) := by
  have rest := State.rest_holdLane i r s
  have others (j : LaneId) (hj : j ≠ i) : (s.holdLane i r).lane j = s.lane j := State.lane_holdLane_ne hj r
  have held := s.lane_holdLane_self i r
  unfold State.enterHeld
  simp only
  rw [if_neg hr]
  refine ⟨(KeepsBooks.of_lane rest others held.follows.sound).trans (State.keepsBooks_settleIfClosing i _),
    fun h => State.commitments_settleIfClosing i (rest.commitmentsCounted others held.follows h), fun h => ?_⟩
  unfold State.settleIfClosing
  split
  next closing =>
    refine State.lanes_settleDocket ?_ (iff_of_true held.state (HoldSet.ne_empty_of_has held.holds)) held.clear fun j hj => ?_
    · rw [← Option.isSome_map, closing]; rfl
    · rw [others j hj]; exact h j
  next open_ => exact lanesSound_of_lane others (fun _ => held.sound (Lane.notClosing_iff.2 open_)) h

theorem State.keeps_laneFault (i : LaneId) {r : HoldReason} (hr : r ≠ .cancelled) (s : State) : Keeps s (s.laneFault i r) := by
  unfold State.laneFault
  split
  case h_3 => rfl
  case h_4 => rfl
  all_goals exact State.keeps_enterHeld i hr s

/-! ### Closing a docket (R67, R88, R89) -/

/-- A settlement on a sound lane with nothing in flight. -/
theorem State.keeps_settleDocket {s : State} {i : LaneId} (clear : (s.lane i).clear = true) : Keeps s (s.settleDocket i) := by
  refine ⟨State.keepsBooks_settleDocket i s, State.commitments_settleDocket i, fun h => ?_⟩
  cases hd : (s.lane i).docket with
  | none =>
    unfold State.settleDocket
    rw [hd]
    exact h
  | some d => exact State.lanes_settleDocket (by simp [hd]) (h i).1 (Lane.clear_iff.1 clear) fun j _ => h j

theorem State.keeps_settleIfDrained (i : LaneId) (s : State) : Keeps s (s.settleIfDrained i) := by
  unfold State.settleIfDrained State.settleIfClosing
  exact .ite (fun clear => .ite (fun _ => State.keeps_settleDocket clear) fun _ => .refl s) fun _ => .refl s

theorem Lane.follows_close (c : CloseCause) (l : Lane) : l.Follows (l.close c) :=
  .of_map rfl (fun _ => rfl) fun _ h => h

theorem State.keeps_closeDocket (i : LaneId) (c : CloseCause) (s : State) : Keeps s (s.closeDocket i c) := by
  have rest := Rest.modLane s i (Lane.close c)
  have others (j : LaneId) (hj : j ≠ i) : (s.modLane i (Lane.close c)).lane j = s.lane j := s.lane_modLane_ne hj.symm _
  have self : (s.modLane i (Lane.close c)).lane i = (s.lane i).close c := s.lane_modLane_self i _
  have follows : (s.lane i).Follows ((s.modLane i (Lane.close c)).lane i) := self ▸ Lane.follows_close c _
  have books := KeepsBooks.of_lane rest others follows.sound
  unfold State.closeDocket
  simp only
  split
  next clear =>
    refine ⟨books.trans (State.keepsBooks_settleDocket i _),
      fun h => State.commitments_settleDocket i (rest.commitmentsCounted others follows h), fun h => ?_⟩
    cases hd : (s.lane i).docket with
    | none =>
      have : ((s.modLane i (Lane.close c)).lane i).docket = none := by rw [self]; simp [Lane.close, hd]
      unfold State.settleDocket
      rw [this]
      refine lanesSound_of_lane others (fun sound => ?_) h
      rw [self]
      exact (Lane.Keeps.of_alike (l := s.lane i) (l' := (s.lane i).close c) rfl rfl (by simp [Lane.close, hd]) rfl rfl).keeps sound
    | some d =>
      refine State.lanes_settleDocket ?_ ?_ ?_ fun j hj => ?_
      · rw [self]; simp [Lane.close, hd]
      · rw [self]; exact (h i).1
      · rw [self]; exact Lane.clear_iff.1 clear
      · rw [others j hj]; exact h j
  next busy =>
    refine ⟨books, rest.commitmentsCounted others follows, lanesSound_of_lane others fun sound => ?_⟩
    rw [self]
    have running := sound.running_of_not_clear (by simpa using busy)
    obtain ⟨-, -, -, -, -, span, travel⟩ := id sound
    exact sound.of_running running running rfl (by simp [Lane.close]) span travel

end Sys2Proof.Machine
end

section
/-! PROOF. What the remaining lane events keep: timers, the drive, the gate, the beams, and a lane's tick. -/

namespace Sys2Proof.Machine

/-! ### Lane timers (R18, R65 to R67) -/

theorem State.keeps_modDocket {i : LaneId} {s : State} {f : Docket → Docket} (method : ∀ d, (f d).method = d.method)
    (sound : ∀ d, d.Sound → (f d).Sound)
    (closing : ∀ d, (s.lane i).docket = some d → (s.lane i).state ≠ .running → d.state ≠ .closing → (f d).state ≠ .closing) :
    Keeps s (s.modDocket i f) := by
  refine .modLane ⟨.of_map rfl method sound, fun h => ?_⟩
  obtain ⟨held, idle, off, served, open_, span, travel⟩ := h
  refine ⟨held, idle, fun out => ?_, fun out => ?_, fun out => ?_, span, travel⟩
  · rw [off out]; rfl
  · rw [Option.isSome_map]; exact served out
  · intro d hd
    obtain ⟨d', hd', rfl⟩ := Option.map_eq_some_iff.1 hd
    exact closing d' hd' out (open_ out d' hd')

theorem State.keeps_quietExpires (i : LaneId) (s : State) : Keeps s (s.quietExpires i) := by
  have stopped : Keeps s (s.modLane i fun l => { l with quietTimer := none }) := .modLane_alike rfl rfl rfl rfl rfl
  have armed : Keeps s ((s.modLane i fun l => { l with quietTimer := none }).modLane i fun l =>
      { l with autoCloseTimer := s.autoCloseDue }) := stopped.trans (.modLane_alike rfl rfl rfl rfl rfl)
  have quiet (s : State) : Keeps s (s.modDocket i fun d => { d with state := .quiet }) :=
    State.keeps_modDocket (fun _ => rfl) (fun _ h => h) fun _ _ _ _ => nofun
  exact .ite (fun _ => (armed.trans (quiet _)).trans (.raiseLane _ _ _)) fun _ => stopped

theorem State.keeps_autoCloseExpires (i : LaneId) (s : State) : Keeps s (s.autoCloseExpires i) :=
  .ite (fun _ => (Keeps.raiseLane _ _ _).trans (State.keeps_closeDocket _ _ _))
    fun _ => .modLane_alike rfl rfl rfl rfl rfl

theorem State.keeps_laneAwake (i : LaneId) (s : State) : Keeps s (s.laneAwake i) := by
  refine .modLane ?_
  cases hd : (s.lane i).docket with
  | none => exact .of_alike rfl rfl rfl rfl rfl
  | some d =>
    simp only
    split
    · exact .of_alike rfl rfl rfl rfl rfl
    next open_ =>
      refine ⟨⟨by rw [hd]; rfl, fun h d' hd' => ?_⟩, fun h => ?_⟩
      · cases hd'; exact h d hd
      · obtain ⟨held, idle, off, served, -, span, travel⟩ := h
        refine ⟨held, idle, fun out => ?_, fun _ => rfl, fun _ d' hd' => ?_, span, travel⟩
        · rw [off out] at hd; cases hd
        · cases hd'; nofun

/-! ### Moves and gate events (R39, R45 to R50) -/

theorem State.keeps_tryMove (i : LaneId) (s : State) : Keeps s (s.tryMove i) := by
  unfold State.tryMove
  simp only
  split
  · exact .ite (fun _ => State.keeps_beginStep _ _ _) fun _ => .refl s
  · rfl

theorem State.keeps_runningStep (i : LaneId) (toward : Side) (s : State) : Keeps s (s.runningStep i toward) :=
  (Keeps.modDiverter _ _ _).trans (State.keeps_tryMove _ _)

theorem State.keeps_homingStep {i : LaneId} {s : State} (h : (s.lane i).state = .homing) : Keeps s (s.homingStep i) :=
  (Keeps.modDiverter s i _).trans (.ite (fun _ => State.keeps_homeFound (by simpa using h)) fun _ =>
    .ite (fun _ => State.keeps_beginStep _ _ _) fun _ => State.keeps_laneFault _ (by decide) _)

theorem State.keeps_completeStep (i : LaneId) (s : State) : Keeps s (s.completeStep i) := by
  unfold State.completeStep
  split
  next homing => exact State.keeps_homingStep homing
  · exact State.keeps_runningStep _ _ _
  · rfl

theorem State.keeps_commitRecord (i : LaneId) (p : Passage) (s : State) : Keeps s (s.commitRecord i p) := by
  have counted : Keeps s ((s.modLane i fun l => { l with travel := commitSeq p.seq l.travel }).modDocket i (Docket.count p)) :=
    .trans (.modLane_alike rfl rfl rfl rfl (length_modifyFirst _ _ _))
      (State.keeps_modDocket (fun d => d.method_count p) (fun d h => h.count p) fun d _ _ h => by rwa [d.state_count])
  exact .ite (fun _ => counted.trans (.raiseLane _ _ _)) fun _ => counted

theorem length_dropSeq_le (seq : Nat) (ps : List Passage) : (dropSeq seq ps).length ≤ ps.length :=
  List.length_eraseP_le

theorem State.keeps_misroute {i : LaneId} (p : Passage) {s : State} (running : (s.lane i).state = .running) :
    Keeps s (s.misroute i p) := by
  have dropped : Keeps s (s.modLane i fun l => { l with
      span := dropSeq p.seq l.span, travel := dropSeq p.seq l.travel }) := by
    refine .modLane ⟨.of_docket rfl, fun h => ?_⟩
    obtain ⟨-, -, -, -, -, span, travel⟩ := id h
    exact h.of_running running running rfl rfl ((length_dropSeq_le _ _).trans span) ((length_dropSeq_le _ _).trans travel)
  have released (s : State) : Keeps s (s.modDocket i fun d =>
      { d.releaseRecord p with misrouted := countUp d.misrouted }) :=
    State.keeps_modDocket (fun d => d.method_releaseRecord p) (fun d h => h.releaseRecord p) fun d _ _ h => by
      simpa using h
  unfold State.misroute
  exact ((dropped.trans (released _)).trans (.raiseLane _ _ _)).trans (State.keeps_laneFault i (by decide) _)

theorem State.keeps_arrive {i : LaneId} (seq : Nat) {s : State} (running : (s.lane i).state = .running) :
    Keeps s (s.arrive i seq) := by
  unfold State.arrive
  split
  · exact .ite (fun _ => State.keeps_commitRecord _ _ _) fun _ => State.keeps_misroute _ running
  · split
    · exact State.keeps_misroute _ running
    · rfl

theorem State.keeps_clearGate {i : LaneId} (seq : Nat) {s : State} (running : (s.lane i).state = .running) :
    Keeps s (s.clearGate i seq) := by
  refine Keeps.trans (.modLane ⟨.of_docket rfl, fun h => ?_⟩)
    ((State.keeps_tryMove _ _).trans (State.keeps_settleIfDrained _ _))
  obtain ⟨-, -, -, -, -, span, travel⟩ := id h
  exact h.of_running running running rfl rfl span (List.length_eraseP_le.trans travel)

/-! ### Measurement (R9 to R17, R30 to R37) -/

theorem State.keeps_measureAOn {i : LaneId} {s : State} (running : (s.lane i).state = .running) :
    Keeps s (s.measureAOn i) := by
  refine .ite (fun room => .trans (.modLane ⟨.of_docket rfl, fun h => ?_⟩) (State.keeps_laneAwake _ _))
    fun _ => State.keeps_laneFault _ (by decide) _
  obtain ⟨-, -, -, -, -, -, travel⟩ := id h
  exact h.of_running running running rfl rfl (by simpa using room) travel

theorem State.keeps_measureAOff (i : LaneId) (s : State) : Keeps s (s.measureAOff i) :=
  .modLane_alike rfl rfl rfl (length_modifyLast _ _ _) rfl

theorem State.keeps_measureBOn (i : LaneId) (s : State) : Keeps s (s.measureBOn i) :=
  .ite (fun _ => .modLane_alike rfl rfl rfl (length_modifyFirst _ _ _) rfl) fun _ => State.keeps_laneFault _ (by decide) _

theorem State.keeps_measureNeck (i : LaneId) (s : State) : Keeps s (s.measureNeck i) :=
  .modLane_alike rfl rfl rfl (length_modifyFirst _ _ _) rfl

theorem State.keeps_queueRefused {i : LaneId} (p : Passage) (r : RefuseReason) {s : State}
    (running : (s.lane i).state = .running) (room : (s.lane i).travel.length < Config.travelMax) :
    Keeps s (s.queueRefused i p r) := by
  unfold State.queueRefused
  refine Keeps.trans (.modLane ⟨.of_docket rfl, fun h => ?_⟩) (.raiseLane _ _ _)
  obtain ⟨-, -, -, -, -, span, -⟩ := id h
  exact h.of_running running running rfl rfl span (by simpa using room)

theorem State.keeps_classify {i : LaneId} (p : Passage) {s : State} (running : (s.lane i).state = .running)
    (room : (s.lane i).travel.length < Config.travelMax) : Keeps s (s.classify i p) := by
  unfold State.classify
  split
  · exact State.keeps_queueRefused _ _ running room
  next k _ =>
    split
    next d entry reserved =>
      obtain ⟨d₀, hd, reserve⟩ := Option.bind_eq_some_iff.1 reserved
      obtain ⟨method, -⟩ := Docket.reserve_frame reserve
      refine .modLane ⟨⟨by simp [hd, method], fun h d' hd' => ?_⟩, fun h => ?_⟩
      · cases hd'; exact (h d₀ hd).reserve reserve
      · obtain ⟨-, -, -, -, -, span, -⟩ := id h
        exact h.of_running running running rfl (by simp [hd]) span (by simpa using room)
    · exact State.keeps_queueRefused _ _ running room

theorem State.keeps_finishRecord {i : LaneId} (p : Passage) {s : State} (running : (s.lane i).state = .running) :
    Keeps s (s.finishRecord i p) := by
  refine .ite (fun room => ?_) fun _ =>
    .trans (.modLane_alike rfl rfl rfl (length_modifyFirst _ _ _) rfl) (State.keeps_laneFault _ (by decide) _)
  refine Keeps.trans (.modLane ⟨.of_docket rfl, fun h => ?_⟩)
    ((State.keeps_classify p (by simpa using running) (by simpa using room)).trans (State.keeps_tryMove _ _))
  obtain ⟨-, -, -, -, -, span, travel⟩ := id h
  exact h.of_running running running rfl rfl (List.length_eraseP_le.trans span) travel

theorem State.keeps_measureBOff {i : LaneId} {s : State} (running : (s.lane i).state = .running) :
    Keeps s (s.measureBOff i) := by
  unfold State.measureBOff
  split
  · rfl
  · split
    · exact State.keeps_finishRecord _ running
    · exact State.keeps_laneFault _ (by decide) _

/-! ### Edges, the button and the tag port (R1 to R7) -/

theorem State.measures_iff {s : State} {i : LaneId} : s.measures i = true ↔ (s.lane i).state = .running :=
  decide_eq_true_iff

theorem State.keeps_edgeA (i : LaneId) (on : Bool) (s : State) : Keeps s (s.edgeA i on) := by
  have jam (x : Option Tick) : Keeps s (s.modLane i fun l => { l with jamA := x }) := .modLane_alike rfl rfl rfl rfl rfl
  refine .trans (jam _) (.ite (fun running => ?_) fun _ => .refl _)
  exact .ite (fun _ => State.keeps_measureAOn (by simpa using State.measures_iff.1 running))
    fun _ => State.keeps_measureAOff _ _

theorem State.keeps_edgeB (i : LaneId) (on : Bool) (s : State) : Keeps s (s.edgeB i on) := by
  have jam (x : Option Tick) : Keeps s (s.modLane i fun l => { l with jamB := x }) := .modLane_alike rfl rfl rfl rfl rfl
  refine .trans (jam _) (.ite (fun running => ?_) fun _ => .refl _)
  exact .ite (fun _ => State.keeps_measureBOn _ _)
    fun _ => State.keeps_measureBOff (by simpa using State.measures_iff.1 running)

theorem State.keeps_edgeNeck (i : LaneId) (s : State) : Keeps s (s.edgeNeck i) :=
  .ite (fun _ => State.keeps_measureNeck _ _) fun _ => .refl s

theorem State.keeps_jamExpires (i : LaneId) (beam : Beam) (s : State) : Keeps s (s.jamExpires i beam) := by
  unfold State.jamExpires
  cases beam <;> exact .trans (.modLane_alike rfl rfl rfl rfl rfl) (State.keeps_laneFault _ (by decide) _)

theorem State.keeps_press (i : LaneId) (s : State) : Keeps s (s.press i) := by
  unfold State.press
  split
  · exact .raiseLane _ _ _
  next span => exact .modLane_alike rfl rfl rfl (by rw [span]; rfl) rfl

theorem State.keeps_attachTag (i : LaneId) (g : Tag) (s : State) : Keeps s (s.attachTag i g) :=
  .ite (fun _ => .modLane_alike rfl rfl rfl (length_modifyFirst _ _ _) rfl) fun _ => .raiseLane _ _ _

theorem State.keeps_setTagBytes (i : LaneId) (bytes : List Byte) (t : Tick) (s : State) : Keeps s (s.setTagBytes i bytes t) :=
  .modLane_alike rfl rfl rfl rfl rfl

theorem State.keeps_tagCharacter (i : LaneId) (start t : Tick) (c : Cells) (s : State) :
    Keeps s (s.tagCharacter i start t c) := by
  unfold State.tagCharacter
  split
  · exact .modLane_alike rfl rfl rfl rfl rfl
  · exact .modLane_alike rfl rfl rfl rfl rfl
  · unfold State.assembleTag
    split
    · exact (State.keeps_setTagBytes _ _ _ _).trans (.ite (fun _ => State.keeps_attachTag _ _ _) fun _ => .refl _)
    · exact State.keeps_setTagBytes _ _ _ _

theorem State.keeps_beamA (i : LaneId) (on : Bool) (s : State) : Keeps s (s.beamA i on) :=
  .ite (fun _ => .refl s) fun _ => .trans (.modLane_alike rfl rfl rfl rfl rfl) (State.keeps_edgeA _ _ _)

theorem State.keeps_beamB (i : LaneId) (on : Bool) (s : State) : Keeps s (s.beamB i on) :=
  .ite (fun _ => .refl s) fun _ => .trans (.modLane_alike rfl rfl rfl rfl rfl) (State.keeps_edgeB _ _ _)

theorem State.keeps_neckClear (i : LaneId) (s : State) : Keeps s (s.neckClear i) := .modLane_alike rfl rfl rfl rfl rfl

theorem State.keeps_neckBlocked (i : LaneId) (s : State) : Keeps s (s.neckBlocked i) :=
  (State.keeps_neckClear _ _).trans (.trans (.modLane_alike rfl rfl rfl rfl rfl) (State.keeps_edgeNeck _ _))

theorem State.keeps_damageLevel (i : LaneId) (pressed : Bool) (s : State) : Keeps s (s.damageLevel i pressed) := by
  have set : Keeps s (s.modLane i fun l => { l with damage := DamageInput.steady pressed }) :=
    .modLane_alike rfl rfl rfl rfl rfl
  exact .ite (fun _ => .refl s) fun _ => .ite (fun _ => set.trans (State.keeps_press _ _)) fun _ => set

/-! ### A lane's tick -/

theorem State.keeps_sampleLane (i : LaneId) (s : State) : Keeps s (s.sampleLane i) := by
  have sampled : Keeps s (s.modLane i Lane.sample) := .modLane_alike rfl rfl rfl rfl rfl
  exact (((sampled.trans (.ite (fun _ => .refl _) fun _ => State.keeps_edgeA _ _ _)).trans
    (.ite (fun _ => .refl _) fun _ => State.keeps_edgeB _ _ _)).trans
    (.ite (fun _ => State.keeps_edgeNeck _ _) fun _ => .refl _)).trans
    (.ite (fun _ => State.keeps_press _ _) fun _ => .refl _)

theorem Keeps.foldl {f : State → Nat → State} (h : ∀ s n, Keeps s (f s n)) (ns : List Nat) (s : State) :
    Keeps s (ns.foldl f s) := by
  induction ns generalizing s with
  | nil => rfl
  | cons n ns ih => exact (h s n).trans (ih _)

theorem State.keeps_tickGate (i : LaneId) (s : State) : Keeps s (s.tickGate i) := by
  refine .trans (.foldl (fun s n => ?_) _ _) (.foldl (fun s n => ?_) _ _)
  · exact .ite (fun h => State.keeps_arrive n h.1) fun _ => .refl s
  · exact .ite (fun h => State.keeps_clearGate n h.1) fun _ => .refl s

theorem State.keeps_tickLane (s : State) (i : LaneId) : Keeps s (s.tickLane i) := by
  have step (s : State) : Keeps s (s.tickStep i) := .ite (fun _ => State.keeps_completeStep _ _) fun _ => .refl s
  have jams (s : State) : Keeps s (s.tickJams i) :=
    .trans (.ite (fun _ => State.keeps_jamExpires _ _ _) fun _ => .refl s)
      (.ite (fun _ => State.keeps_jamExpires _ _ _) fun _ => .refl _)
  have docket (s : State) : Keeps s (s.tickDocket i) :=
    .trans (.ite (fun _ => State.keeps_quietExpires _ _) fun _ => .refl s)
      (.ite (fun _ => State.keeps_autoCloseExpires _ _) fun _ => .refl _)
  exact ((((((State.keeps_showHome i s).trans (State.keeps_sampleLane i _)).trans (step _)).trans
    (State.keeps_tickGate i _)).trans (jams _)).trans (docket _)).trans (State.keeps_tryMove i _)

end Sys2Proof.Machine
end

section
/-! PROOF. What requests, the port, the store and a reset keep; then every command, and the step. -/

namespace Sys2Proof.Machine

theorem OnLane.keepsBooks {i : LaneId} {s t : State} (h : OnLane i s t) : KeepsBooks s t :=
  .of_lane h.toRest h.others (Lane.Follows.of_docket h.docket).sound

theorem OnLane.balance {i : LaneId} {s t : State} (h : OnLane i s t) : t.balance = s.balance := by
  rw [h.toRest.balance h.others, (Lane.Follows.of_docket h.docket).commits]
  ring

theorem OnLane.raiseLane (s : State) (i : LaneId) (f : LaneFlags → LaneFlags) : OnLane i s (s.raiseLane i f) :=
  ⟨.raiseLane s i f, fun _ hj => State.lane_raiseLane_ne hj f, by rw [State.lane_raiseLane_self]⟩

theorem Unseen.port_of_nodup {s : State} {p : Port} (h : s.port.attention.Nodup → p.attention.Nodup) :
    Unseen s { s with port := p } :=
  ⟨⟨rfl, rfl, rfl, rfl, rfl, rfl, rfl, rfl, rfl, rfl, rfl, h⟩, rfl⟩

theorem Unseen.port {s : State} {p : Port} (h : p.attention = s.port.attention) : Unseen s { s with port := p } :=
  .port_of_nodup fun nodup => h ▸ nodup

/-- What is kept from a state with another port on is kept from the state itself. -/
theorem Keeps.of_port {s t : State} {p : Port} (k : Keeps { s with port := p } t) (h : p.attention = s.port.attention) :
    Keeps s t :=
  (Unseen.port h).keeps.trans k

/-! ### Requests of a lane (R62, R63, R75, R76, R88, R92) -/

theorem Docket.sound_new (number account : Nat) (m : Method) (day : Nat) : (Docket.new number account m day).Sound :=
  Docket.sound_iff.2 ⟨Nat.zero_le _, rfl, rfl, by simp [Docket.new], by simp [Docket.new], by simp [Docket.new],
    by simp [Docket.new], by simp [Docket.new]⟩

/-- An accepted DOCKET_OPEN on an OFF lane without a docket; a docket that is a commitment is opened in NORMAL alone. -/
theorem State.keeps_openDocket {i : LaneId} (account : Nat) (m : Method) {s : State} (docket : (s.lane i).docket = none)
    (off : (s.lane i).state = .off) (started : s.part.state ≠ .starting)
    (normal : m ≠ .account → s.queue.pressure = .normal) : Keeps s (s.openDocket i account m) := by
  unfold State.openDocket
  simp only
  generalize hd : Docket.new s.docketNumber account m s.part.day = d
  have method : d.method = m := by rw [← hd]; rfl
  have sound : d.Sound := by rw [← hd]; exact Docket.sound_new _ _ _ _
  have opened : d.state = .opened := by rw [← hd]; rfl
  set created := State.modLane i (fun l => { l with docket := some d })
    { s with part := { s.part with nextDocket := nextNumber s.docketNumber } } with hc
  have rest : Rest s created := ⟨rfl, rfl, rfl, rfl, rfl, rfl, rfl, rfl, rfl, rfl, rfl, id⟩
  have others (j : LaneId) (hj : j ≠ i) : created.lane j = s.lane j := State.lane_modLane_ne _ hj.symm _
  have self : created.lane i = { s.lane i with docket := some d } := State.lane_modLane_self _ _ _
  have books : KeepsBooks s created := .of_lane rest others fun _ d' hd' => by
    rw [self] at hd'; cases hd'; exact sound
  have balance : created.balance = s.balance - (if m = .account then 0 else 1) := by
    rw [rest.balance others, Lane.commits_of_none docket, Lane.commits_of_docket (by rw [self]), method]
    split <;> simp
  have committed : KeepsBooks created (created.commitFor m) ∧ (created.commitFor m).lanes = created.lanes
      ∧ (created.commitFor m).balance = s.balance := by
    unfold State.commitFor
    split
    next hm => rw [if_pos hm] at balance; exact ⟨.refl _, rfl, by rw [balance]; ring⟩
    next hm =>
      rw [if_neg hm] at balance
      exact ⟨Keeps.books_addCommitment (normal hm) started, State.addCommitment_lanes _,
        by rw [State.balance_addCommitment, balance]; ring⟩
  obtain ⟨books', lanes, balance'⟩ := committed
  have lane (j : LaneId) : (created.commitFor m).lane j = created.lane j := by simp only [State.lane, lanes]
  have homing := State.onLane_startHoming i (created.commitFor m)
  refine ⟨(books.trans books').trans homing.keepsBooks, fun h => ?_, fun h => ?_⟩
  · rw [commitmentsCounted_iff] at h ⊢
    rw [homing.balance, balance', h]
  · obtain ⟨held, idle, -⟩ := h i
    rw [off] at held
    refine State.lanes_startHoming ?_ ?_ ?_ ?_ fun j hj => ?_
    · rw [lane, self]; simpa using held
    · rw [lane, self]; exact idle (by simp [off])
    · rw [lane, self]; rfl
    · rw [lane, self]; intro d' hd'; cases hd'; simp [opened]
    · rw [lane, others j hj]; exact h j

theorem State.keeps_decideDocketOpen (lane account method : Nat) (s : State) :
    Keeps s (decideDocketOpen lane account method s).1 := by
  unfold decideDocketOpen
  split
  · rfl
  next opened =>
    have opened : s.part.state = .opened := not_not.1 opened
    split
    next i m _ _ =>
      split
      · rfl
      split
      · rfl
      next none_ =>
        split
        · rfl
        next ready =>
          split
          · rfl
          next accepted =>
            split
            · rfl
            · refine State.keeps_openDocket _ _ (by simpa using none_) ?_ (by simp [opened]) fun hm => ?_
              · exact not_not.1 (not_or.1 ready).1
              · unfold openRefusal at accepted
                split at accepted
                · cases accepted
                · split at accepted
                  · cases accepted
                  · split at accepted
                    · cases m <;> simp_all [Method.pay?]
                    · split at accepted
                      · cases accepted
                      · split at accepted
                        · cases accepted
                        · cases hp : s.queue.pressure <;> simp_all
    · rfl

theorem State.keeps_decideDocketClose (lane : Nat) (s : State) : Keeps s (decideDocketClose lane s).1 := by
  unfold decideDocketClose
  split
  · rfl
  · split
    · rfl
    · split
      · rfl
      · exact State.keeps_closeDocket _ _ _

/-- What the hold of a cancel leaves of a lane that has a docket. -/
theorem State.cancelHold_spec (i : LaneId) (s : State) :
    Rest s (s.cancelHold i) ∧ (∀ j, j ≠ i → (s.cancelHold i).lane j = s.lane j)
      ∧ (s.lane i).Follows ((s.cancelHold i).lane i)
      ∧ ((s.lane i).Sound → (s.lane i).state ≠ .off →
          ((s.cancelHold i).lane i).state = .held ∧ ((s.cancelHold i).lane i).holds ≠ HoldSet.empty
            ∧ ((s.cancelHold i).lane i).span = [] ∧ ((s.cancelHold i).lane i).travel = []) := by
  have held : Rest s (s.holdLane i .cancelled) ∧ (∀ j, j ≠ i → (s.holdLane i .cancelled).lane j = s.lane j)
      ∧ (s.lane i).HeldFrom ((s.holdLane i .cancelled).lane i) .cancelled :=
    ⟨State.rest_holdLane _ _ _, fun j hj => State.lane_holdLane_ne hj _, State.lane_holdLane_self _ _ _⟩
  obtain ⟨rest, others, from_⟩ := held
  obtain ⟨h, f, has, eq⟩ := s.lane_addHold_self i .cancelled
  have added : Rest s (s.addHold i .cancelled) ∧ (∀ j, j ≠ i → (s.addHold i .cancelled).lane j = s.lane j)
      ∧ (s.lane i).Follows ((s.addHold i .cancelled).lane i) :=
    ⟨State.rest_addHold _ _ _, fun j hj => State.lane_addHold_ne hj _, .of_docket (by rw [eq])⟩
  obtain ⟨rest', others', follows'⟩ := added
  unfold State.cancelHold State.enterHeld
  cases hs : (s.lane i).state with
  | homing =>
    exact ⟨rest, others, from_.follows, fun _ _ => ⟨from_.state, HoldSet.ne_empty_of_has from_.holds, from_.clear⟩⟩
  | running =>
    exact ⟨rest, others, from_.follows, fun _ _ => ⟨from_.state, HoldSet.ne_empty_of_has from_.holds, from_.clear⟩⟩
  | off => exact ⟨rest', others', follows', fun _ on => absurd rfl on⟩
  | held =>
    refine ⟨rest', others', follows', fun sound _ => ?_⟩
    obtain ⟨-, idle, -⟩ := sound
    simp only [eq]
    exact ⟨hs, HoldSet.ne_empty_of_has has, idle (by simp [hs])⟩

theorem State.keeps_cancelDocket {i : LaneId} {d : Docket} {s : State} (hd : (s.lane i).docket = some d) :
    Keeps s (s.cancelDocket i d) := by
  obtain ⟨rest, others, follows, held⟩ := s.cancelHold_spec i
  unfold State.cancelDocket
  simp only
  set gone := (s.cancelHold i).modLane i fun l => { l with docket := none } with hg
  have rest' : Rest s gone := rest.trans (.modLane _ _ _)
  have others' (j : LaneId) (hj : j ≠ i) : gone.lane j = s.lane j :=
    (State.lane_modLane_ne _ hj.symm _).trans (others j hj)
  have self : gone.lane i = { (s.cancelHold i).lane i with docket := none } := State.lane_modLane_self _ _ _
  have books : KeepsBooks s gone := .of_lane rest' others' fun _ d' hd' => by rw [self] at hd'; cases hd'
  have balance : gone.balance = s.balance + (if d.method = .account then 0 else 1) := by
    rw [rest'.balance others', Lane.commits_of_docket hd, Lane.commits_of_none (l := gone.lane i) (by rw [self])]
    split <;> simp
  have lanes : LanesSound s → LanesSound gone := by
    intro h
    have on : (s.lane i).state ≠ .off := by
      intro off
      obtain ⟨-, -, none_, -⟩ := h i
      rw [none_ off] at hd
      cases hd
    obtain ⟨state, holds, clear⟩ := held (h i) on
    refine lanesSound_of_lane others' (fun _ => ?_) h
    rw [self]
    exact Lane.sound_of_clear (iff_of_true state holds) clear (by simp) (by simp [state]) nofun
  split
  next account =>
    rw [if_pos account] at balance
    exact ⟨books, fun h => by rw [commitmentsCounted_iff] at h ⊢; rw [balance, h]; rfl, lanes⟩
  next commitment =>
    rw [if_neg commitment] at balance
    refine ⟨books.trans (Keeps.books_dropCommitment _), fun h => ?_, fun h => .of_lanes (State.dropCommitment_lanes _) (lanes h)⟩
    have pos := h.pos_of_lane (i := i) (by rw [Lane.commits_of_docket hd, if_neg commitment]; exact Nat.one_pos)
    rw [commitmentsCounted_iff] at h ⊢
    rw [State.balance_dropCommitment (by rw [rest'.commitments]; exact pos), balance, h]
    rfl

theorem State.keeps_decideDocketCancel (lane : Nat) (s : State) : Keeps s (decideDocketCancel lane s).1 := by
  unfold decideDocketCancel
  split
  · rfl
  · split
    · rfl
    next hd => exact State.keeps_cancelDocket hd

theorem State.keeps_decideLaneHold (lane : Nat) (s : State) : Keeps s (decideLaneHold lane s).1 := by
  unfold decideLaneHold
  split
  · rfl
  · split
    · rfl
    · exact State.keeps_enterHeld (r := .requested) _ (by decide) s
    · exact State.keeps_enterHeld (r := .requested) _ (by decide) s
    next held => exact State.keeps_addHold _ held

theorem State.keeps_release {i : LaneId} {s : State} (held : (s.lane i).state = .held) : Keeps s (s.release i) := by
  unfold State.release
  simp only
  set t := (s.modLane i fun l => { l with holds := HoldSet.empty }).raiseLane i fun f => { f with released := true } with ht
  have on : OnLane i s t := (OnLane.modLane rfl).trans (.raiseLane _ _ _)
  have self : t.lane i = { s.lane i with holds := HoldSet.empty, flags := { (s.lane i).flags with released := true } } := by
    rw [ht, State.lane_raiseLane_self, State.lane_modLane_self]
  have clear (h : LanesSound s) : ((s.lane i).span = [] ∧ (s.lane i).travel = []) ∧ (s.lane i).notClosing := by
    obtain ⟨-, idle, -, -, open_, -⟩ := h i
    exact ⟨idle (by simp [held]), open_ (by simp [held])⟩
  split
  next docket =>
    have homing := on.trans (State.onLane_startHoming i t)
    refine ⟨homing.keepsBooks, fun h => ?_, fun h => ?_⟩
    · rw [commitmentsCounted_iff] at h ⊢; rw [homing.balance, h]
    · refine State.lanes_startHoming ?_ ?_ ?_ ?_ fun j hj => ?_
      · rw [self]
      · rw [self]; exact (clear h).1
      · rw [self]; exact docket
      · rw [self]; exact (clear h).2
      · rw [on.others j hj]; exact h j
  next empty =>
    have off : OnLane i s (t.modLane i fun l => { l with state := .off }) := on.trans (.modLane rfl)
    refine ⟨off.keepsBooks, fun h => ?_, fun h => lanesSound_of_lane off.others (fun _ => ?_) h⟩
    · rw [commitmentsCounted_iff] at h ⊢; rw [off.balance, h]
    · rw [State.lane_modLane_self, self]
      exact Lane.sound_of_clear (by simp) (clear h).1 (fun _ => by simpa using empty) (by simp) (clear h).2

theorem State.keeps_decideLaneRelease (lane : Nat) (s : State) : Keeps s (decideLaneRelease lane s).1 := by
  unfold decideLaneRelease
  split
  · rfl
  · split
    · rfl
    next held =>
      split
      · rfl
      · exact State.keeps_release (not_not.1 held)

theorem State.keeps_decideDocketAdjust (lane type condition bottles : Nat) (delta : Int) (s : State) :
    Keeps s (decideDocketAdjust lane type condition bottles delta s).1 := by
  have adjusted {i : LaneId} {d d' : Docket} (hd : (s.lane i).docket = some d) (method : d'.method = d.method)
      (state : d'.state = d.state) (sound : d.Sound → d'.Sound) : Keeps s (adjusted i d' s).1 := by
    refine .modLane (f := fun l => { l with docket := l.docket.map fun _ => d' })
      ⟨⟨by simp [hd, method], fun h d'' hd'' => ?_⟩, fun h => ?_⟩
    · simp only [hd, Option.map_some, Option.some.injEq] at hd''
      subst hd''
      exact sound (h d hd)
    · obtain ⟨held, idle, off, served, open_, span, travel⟩ := h
      refine ⟨held, idle, fun out => by simp [off out], fun _ => by simp [hd], fun out d'' hd'' => ?_, span, travel⟩
      simp only [hd, Option.map_some, Option.some.injEq] at hd''
      subst hd''
      rw [state]
      exact open_ out d hd
  unfold decideDocketAdjust
  split
  case h_2 => rfl
  split
  · rfl
  split
  · rfl
  next d hd =>
    split
    · rfl
    split
    · split
      · rfl
      · simp only
        split
        · rfl
        next room =>
          refine adjusted hd rfl rfl fun h => h.add _ _ fun needs => ?_
          simpa [needs] using room
    · split
      · rfl
      next held => exact adjusted hd rfl rfl fun h => h.remove _ _ (Nat.not_lt.1 held)

/-! ### Requests of the account table and the queue (R100 to R110, R138, R139) -/

theorem Account.inRange_slotOf {r : AccountData} {a : Account} (good : recordGood r = true) (h : slotOf r = some a) :
    a.InRange := by
  unfold slotOf at h
  split at h
  · cases h
  next filled =>
    cases h
    obtain empty | ⟨-, low, high, cap, credit, paid, -, counts, -⟩ := (recordGood_iff r).1 good
    · exact absurd empty filled
    · refine ⟨low, high, cap, paid, credit, fun n hn => ?_⟩
      have bound : ∀ (ps : List (Nat × Nat)) (o : Vector Nat 24), (∀ p ∈ ps, p.2 ≤ 65535) → (∀ n ∈ o.toList, n ≤ 65535) →
          ∀ n ∈ (ps.foldl (fun o p => o.setIfInBounds p.1 p.2) o).toList, n ≤ 65535 := by
        intro ps
        induction ps with
        | nil => exact fun o _ ho => ho
        | cons p ps ih =>
          intro o hp ho
          refine ih _ (fun q hq => hp q (by simp [hq])) fun m hm => ?_
          rw [Vector.mem_toList_iff] at hm
          obtain ⟨i, hi, rfl⟩ := Vector.mem_iff_getElem.1 hm
          rw [Vector.getElem_setIfInBounds hi]
          split
          · exact hp p (by simp)
          · exact ho _ (Vector.mem_toList_iff.2 (Vector.getElem_mem hi))
      exact bound r.pairs _ (fun p hp => (counts p hp).2.2) (by simp) n hn

theorem State.keeps_decideAcctWrite (r : AccountData) (s : State) : Keeps s (decideAcctWrite r s).1 := by
  unfold decideAcctWrite
  split
  · rfl
  next good =>
    split
    · rfl
    next fresh =>
      split
      · rfl
      · obtain ⟨index, good⟩ := not_or.1 good
        have index := not_not.1 index
        refine ⟨⟨rfl, id, fun h => ?_, id, id, id⟩, id, id⟩
        have account (b : Nat) : State.account { s with accounts := s.accounts.setIfInBounds r.index (slotOf r) } b
            = if r.index = b then slotOf r else s.account b := by
          simp only [State.account, Vector.getElem?_setIfInBounds]
          split
          next same => subst same; simp
          · rfl
        have taken {b : Nat} {x y : Account} (other : r.index ≠ b) (hx : slotOf r = some x) (hy : s.account b = some y) :
            x.number ≠ y.number := by
          intro same
          have filled : r.state ≠ 0 := by
            intro empty
            rw [slotOf, if_pos empty] at hx
            cases hx
          rw [slotOf, if_neg filled] at hx
          cases hx
          refine fresh ⟨filled, (State.numberTaken_iff s _ _).2 ?_⟩
          have hb : b < 64 := by
            by_contra out
            simp [State.account, Vector.getElem?_eq_none (Nat.not_lt.1 out)] at hy
          refine ⟨⟨b, hb⟩, other.symm, ?_⟩
          rw [State.account_eq s hb] at hy
          simp only [Fin.getElem_fin, hy, Option.any_some]
          exact decide_eq_true same.symm
        obtain ⟨ranges, numbers⟩ := h
        simp only [AccountsSound, answerOk, account]
        refine ⟨fun b x hx => ?_, fun b c x y hx hy same => ?_⟩
        · split at hx
          · exact Account.inRange_slotOf (by simpa using good) hx
          · exact ranges b x hx
        · split at hx <;> split at hy
          next hb hc => exact hb.symm.trans hc
          next _ hc => exact absurd same (taken hc hx hy)
          next hb _ => exact absurd same.symm (taken hb hy hx)
          next => exact numbers b c x y hx hy same

theorem State.keeps_decideIssue (account type count : Nat) (s : State) : Keeps s (decideIssue account type count s).1 := by
  unfold decideIssue
  split
  · rfl
  split
  · rfl
  split
  · rfl
  refine Keeps.modAccount (fun _ => rfl) fun x _ h => ?_
  obtain ⟨low, high, cap, paid, credit, counts⟩ := h
  refine ⟨low, high, cap, paid, credit, fun n hn => ?_⟩
  simp only [Vector.mem_toList_iff] at hn
  obtain ⟨i, hi, rfl⟩ := Vector.mem_iff_getElem.1 hn
  rw [Vector.getElem_setIfInBounds hi]
  split
  · exact Nat.min_le_left _ _
  · exact counts _ (Vector.mem_toList_iff.2 (Vector.getElem_mem hi))

theorem State.unseen_windowReply (w : Window) (s : State) : Unseen s (windowReply w s).1 := .port rfl

theorem creditTaken_le (unit : Nat) (a : Account) (m : PayMethod) (amount : Nat) :
    creditTaken unit a m amount ≤ a.dayCap - a.paidToday :=
  (PayMethod.round_le _ _ _).trans ((Nat.min_le_right _ _).trans (Nat.min_le_right _ _))

theorem State.keeps_payOut {account p : Nat} (m : PayMethod) {s : State} {a : Account} (held : s.account account = some a)
    (cap : p ≤ a.dayCap - a.paidToday) (normal : s.queue.pressure = .normal) (started : s.part.state ≠ .starting) :
    Keeps s (s.payOut account m p) := by
  have moved : Keeps s (s.modAccount account fun a => { a with credit := a.credit - p, paidToday := a.paidToday + p }) := by
    refine .modAccount (fun _ => rfl) fun x hx h => ?_
    rw [held] at hx
    cases hx
    obtain ⟨low, high, cap', paid, credit, counts⟩ := h
    exact ⟨low, high, cap', show a.paidToday + p ≤ a.dayCap by omega, (Nat.sub_le _ _).trans credit, counts⟩
  refine moved.trans (.trans ?_ (State.unseen_arbitrate _).keeps)
  refine ⟨(State.books_appendOrder _ _ _ _ _).trans (Keeps.books_addCommitment normal started), fun h => ?_,
    .of_lanes (State.addCommitment_lanes _)⟩
  rw [commitmentsCounted_iff] at h ⊢
  rw [State.balance_addCommitment, State.balance_appendOrder, h]
  rfl

theorem State.keeps_decidePayCredit (account method amount : Nat) (s : State) :
    Keeps s (decidePayCredit account method amount s).1 := by
  unfold decidePayCredit
  split
  · rfl
  next opened =>
    split
    · rfl
    split
    · rfl
    split
    · rfl
    next normal =>
      split
      · rfl
      next a held =>
        split
        · rfl
        split
        · rfl
        simp only
        split
        · rfl
        refine State.keeps_payOut _ held (creditTaken_le _ _ _ _) ?_ (by simp [not_not.1 opened])
        cases hp : s.queue.pressure
        · rfl
        · exact absurd hp normal

theorem State.keeps_cancelOrder {o : PayOrder} {s : State} (h : s.hasOrder o.number) : Keeps s (s.cancelOrder o) := by
  have returned : Keeps s (s.modAccount o.account fun a => { a with
      credit := satAdd Config.maxAmount (o.amount - o.paid) a.credit
      paidToday := a.paidToday - (o.amount - o.paid) }) := by
    refine .modAccount (fun _ => rfl) fun x _ h => ?_
    obtain ⟨low, high, cap, paid, -, counts⟩ := h
    exact ⟨low, high, cap, (Nat.sub_le _ _).trans paid, Nat.min_le_left _ _, counts⟩
  exact (returned.trans (.retire_drop (s := s.modAccount _ _) _ h)).trans (Unseen.raiseQueue _ _).keeps

theorem State.keeps_decideOrderCancel (n : Nat) (s : State) : Keeps s (decideOrderCancel n s).1 := by
  unfold decideOrderCancel
  split
  · rfl
  split
  next found =>
    split
    · exact State.keeps_cancelOrder (State.hasOrder_of_order found)
    · rfl
  · split <;> rfl

/-! ### The type table and the store (R26, R177 to R183) -/

theorem TypeEntry.duplicates_comm (a b : TypeEntry) : a.duplicates b = b.duplicates a := by
  unfold TypeEntry.duplicates
  rw [Bool.eq_iff_iff]
  simp only [Bool.and_eq_true, decide_eq_true_eq]
  tauto

theorem TypeEntry.overlaps_comm (a b : TypeEntry) : a.overlaps b = b.overlaps a := by
  unfold TypeEntry.overlaps
  rw [Bool.eq_iff_iff]
  simp only [Bool.and_eq_true, decide_eq_true_eq]
  tauto

/-- No entry of another index stands in the relation. -/
theorem State.clashes_iff (s : State) (index : Nat) (r : TypeEntry → TypeEntry → Bool) (e : TypeEntry) :
    s.clashes index r e = true ↔ ∃ j : Fin 24, j.val ≠ index ∧ r e s.types[j] = true := by
  simp only [State.clashes, List.any_eq_true, Bool.and_eq_true, decide_eq_true_eq, List.mem_zipIdx_iff_getElem?,
    Vector.getElem?_toList]
  constructor
  · rintro ⟨⟨x, j⟩, slot, other, same⟩
    obtain ⟨hj, here⟩ := Vector.getElem?_eq_some_iff.1 slot
    exact ⟨⟨j, hj⟩, other, by rw [Fin.getElem_fin, here]; exact same⟩
  · rintro ⟨j, other, same⟩
    exact ⟨(s.types[j], j.val), Vector.getElem?_eq_getElem j.isLt, other, same⟩

theorem TableConsistent.set {types : Vector TypeEntry 24} {e : TypeEntry} {i : Nat} (h : TableConsistent types)
    (clash : ∀ j : Fin 24, j.val ≠ i → e.duplicates types[j] = false ∧ e.overlaps types[j] = false) :
    TableConsistent (types.setIfInBounds i e) := by
  intro j k hjk
  have hjk' : j.val ≠ k.val := fun same => hjk (Fin.ext same)
  simp only [Fin.getElem_fin, Vector.getElem_setIfInBounds j.isLt, Vector.getElem_setIfInBounds k.isLt]
  by_cases hj : i = j.val
  · rw [if_pos hj, if_neg (fun hk => hjk' (hj.symm.trans hk))]
    exact clash k fun hk => hjk' (hj.symm.trans hk.symm)
  · rw [if_neg hj]
    by_cases hk : i = k.val
    · rw [if_pos hk, TypeEntry.duplicates_comm, TypeEntry.overlaps_comm]
      exact clash j (Ne.symm hj)
    · rw [if_neg hk]
      exact h j k hjk

theorem State.keeps_decideTypeWrite (e : TypeEntryData) (s : State) : Keeps s (decideTypeWrite e s).1 := by
  unfold decideTypeWrite
  split
  · rfl
  split
  · rfl
  split
  · rfl
  split
  · rfl
  next duplicate =>
    split
    · rfl
    next overlap =>
      refine ⟨⟨rfl, id, id, fun h => ?_, id, id⟩, id, id⟩
      obtain ⟨types, stored⟩ := h
      refine ⟨types.set fun j hj => ⟨?_, ?_⟩, stored⟩
      · by_contra clash
        exact duplicate ((State.clashes_iff _ _ _ _).2 ⟨j, hj, by simpa using clash⟩)
      · by_contra clash
        exact overlap ((State.clashes_iff _ _ _ _).2 ⟨j, hj, by simpa using clash⟩)

theorem State.keeps_decideConfigSave (s : State) : Keeps s (decideConfigSave s).1 := by
  unfold decideConfigSave
  split
  · rfl
  · refine ⟨⟨rfl, id, id, fun h => ?_, id, fun h => ?_⟩, id, id⟩
    · obtain ⟨types, area1, area2, -⟩ := h
      exact ⟨types, area1, area2, fun v hv => by cases hv; exact types⟩
    · obtain ⟨marks, area1, area2, -, rest⟩ := h
      exact ⟨marks, area1, area2, fun v hv => by cases hv; exact marks, rest⟩

theorem State.keeps_decideLaneTrim (lane : Nat) (steps : Int) (s : State) : Keeps s (decideLaneTrim lane steps s).1 := by
  unfold decideLaneTrim
  split
  · rfl
  split
  · rfl
  split
  · rfl
  exact ⟨⟨rfl, id, id, id, id, id⟩, id, id⟩

theorem State.keeps_decideDayOpen (day : Nat) (s : State) : Keeps s (decideDayOpen day s).1 := by
  unfold decideDayOpen
  split
  · rfl
  split
  · rfl
  refine ⟨⟨rfl, id, id, id, id, fun h => ?_⟩, id, id⟩
  obtain ⟨marks, area1, area2, save, below, places, -⟩ := h
  exact ⟨marks, area1, area2, save, below, places, nofun⟩

theorem State.account_clearPaidToday (s : State) (a : Nat) :
    State.account { s with accounts := clearPaidToday s.accounts } a
      = (s.account a).map fun x => { x with paidToday := 0 } := by
  simp only [State.account, clearPaidToday, Vector.getElem?_map]
  cases s.accounts[a]? <;> rfl

theorem State.keeps_decideDayClose (s : State) : Keeps s (decideDayClose s).1 := by
  unfold decideDayClose
  split
  · rfl
  split
  · rfl
  refine ⟨⟨rfl, id, fun h => ?_, id, id, fun h => ?_⟩, id, id⟩
  · obtain ⟨ranges, numbers⟩ := h
    have back {b : Nat} {y : Account} (hy : State.account { s with accounts := clearPaidToday s.accounts } b = some y) :
        ∃ x, s.account b = some x ∧ y = { x with paidToday := 0 } := by
      rw [State.account_clearPaidToday] at hy
      obtain ⟨x, hx, rfl⟩ := Option.map_eq_some_iff.1 hy
      exact ⟨x, hx, rfl⟩
    refine ⟨fun b y hy => ?_, fun b c y z hy hz same => ?_⟩
    · obtain ⟨x, hx, rfl⟩ := back hy
      obtain ⟨low, high, cap, -, credit, counts⟩ := ranges b x hx
      exact ⟨low, high, cap, Nat.zero_le _, credit, counts⟩
    · obtain ⟨x, hx, rfl⟩ := back hy
      obtain ⟨w, hw, rfl⟩ := back hz
      exact numbers b c x w hx hw same
  · obtain ⟨marks, area1, area2, save, below, places, -⟩ := h
    exact ⟨marks, area1, area2, save, below, places, nofun⟩

theorem State.keeps_decidePartReset (s : State) : Keeps s (decidePartReset s).1 := by
  unfold decidePartReset
  split
  · rfl
  split
  · rfl
  exact Unseen.keeps (.port rfl)

/-! ### Configuration writes (R181) -/

/-- Writing items is writing the configuration, then what the drive modes do to the phase indexes. -/
theorem State.foldl_writeSetting (xs : List Setting) (s : State) :
    xs.foldl State.writeSetting s
      = xs.foldl (fun t x => x.rephase t) { s with settings := xs.foldl (fun g x => x.apply g) s.settings } := by
  induction xs generalizing s with
  | nil => rfl
  | cons x xs ih =>
    have rephased (g : Settings) : { x.rephase { s with settings := x.apply s.settings } with settings := g }
        = x.rephase { s with settings := g } := by
      cases x <;> rfl
    have written : (s.writeSetting x).settings = x.apply s.settings := by cases x <;> rfl
    rw [List.foldl_cons, List.foldl_cons, List.foldl_cons, ih, written, State.writeSetting, rephased]

/-- Rephasing changes diverters alone. -/
theorem State.foldl_rephase (xs : List Setting) (s : State) :
    Rest s (xs.foldl (fun t x => x.rephase t) s) ∧ Keeps s (xs.foldl (fun t x => x.rephase t) s) := by
  induction xs generalizing s with
  | nil => exact ⟨.refl s, .refl s⟩
  | cons x xs ih =>
    have one : Rest s (x.rephase s) ∧ Keeps s (x.rephase s) := by
      cases x
      case mode i m =>
        exact ⟨(OnLane.modDiverter s i fun v => { v with phaseIndex := v.phaseIndex % m.patternLength }).toRest,
          .modDiverter s i fun v => { v with phaseIndex := v.phaseIndex % m.patternLength }⟩
      all_goals exact ⟨.refl s, .refl s⟩
    obtain ⟨rest, keeps⟩ := ih (x.rephase s)
    exact ⟨one.1.trans rest, one.2.trans keeps⟩

theorem highMark_le_of_settingOf {c : ConfigItem} {v : Nat} (h : settingOf c = some (.highMark v)) : v ≤ 16 := by
  unfold settingOf at h
  split at h
  case h_12 =>
    simp only [Option.bind_eq_bind, Option.bind_eq_some_iff, Option.pure_def, Option.some.injEq, Setting.highMark.injEq] at h
    obtain ⟨-, -, v', ranged', rfl⟩ := h
    unfold ranged at ranged'
    split at ranged'
    next bounds => cases ranged'; exact bounds.2
    · cases ranged'
  all_goals simp [Option.bind_eq_some_iff] at h

/-- Written from fields of items, HIGH_MARK is at most 16. -/
theorem highMark_foldl_apply {xs : List Setting} (good : ∀ v, .highMark v ∈ xs → v ≤ 16) {g : Settings} (h : g.highMark ≤ 16) :
    (xs.foldl (fun g x => x.apply g) g).highMark ≤ 16 := by
  induction xs generalizing g with
  | nil => exact h
  | cons x xs ih =>
    refine ih (fun v hv => good v (by simp [hv])) ?_
    cases x
    case highMark v => exact good v (by simp)
    all_goals exact h

/-- Without a mark among the fields both marks stay. -/
theorem marks_foldl_apply {xs : List Setting} (none_ : xs.any Setting.isMark = false) (g : Settings) :
    (xs.foldl (fun g x => x.apply g) g).highMark = g.highMark ∧ (xs.foldl (fun g x => x.apply g) g).lowMark = g.lowMark := by
  induction xs generalizing g with
  | nil => exact ⟨rfl, rfl⟩
  | cons x xs ih =>
    simp only [List.any_cons, Bool.or_eq_false_iff] at none_
    obtain ⟨high, low⟩ := ih none_.2 (x.apply g)
    have one : (x.apply g).highMark = g.highMark ∧ (x.apply g).lowMark = g.lowMark := by
      cases x
      case highMark => cases none_.1
      case lowMark => cases none_.1
      all_goals exact ⟨rfl, rfl⟩
    exact ⟨high.trans one.1, low.trans one.2⟩

theorem State.keeps_writeSettings {xs : List Setting} {s : State} (good : ∀ v, .highMark v ∈ xs → v ≤ 16)
    (apart : (xs.foldl (fun g x => x.apply g) s.settings).lowMark < (xs.foldl (fun g x => x.apply g) s.settings).highMark) :
    Keeps s (s.writeSettings xs) := by
  unfold State.writeSettings
  simp only
  rw [State.foldl_writeSetting]
  obtain ⟨rest, keeps⟩ := State.foldl_rephase xs { s with settings := xs.foldl (fun g x => x.apply g) s.settings }
  have unmarked (h : xs.any Setting.isMark = false) := marks_foldl_apply h s.settings
  have bounded := @highMark_foldl_apply xs good s.settings
  generalize xs.foldl (fun g x => x.apply g) s.settings = g at *
  generalize xs.foldl (fun t x => x.rephase t) { s with settings := g } = t at *
  obtain ⟨f, set, nodup, eq⟩ := t.evaluatePressure_cases
  have marks (h : PressureSound s) : t.settings.MarksGood := by
    rw [rest.settings]
    exact ⟨apart, bounded h.1.2⟩
  split
  next marked =>
    refine ⟨⟨?_, ?_, ?_, ?_, ?_, fun h => ?_⟩, fun h => ?_, fun h => ?_⟩
    · rw [eq]; exact keeps.pending
    · rw [eq]; exact nodup ∘ keeps.attention
    · rw [eq]; exact keeps.accounts
    · rw [eq]; exact keeps.types
    · rw [eq]; exact keeps.dockets
    · obtain ⟨-, area1, area2, save, -, places, none_⟩ := id h
      rw [eq]
      refine ⟨marks h, rest.area1 ▸ area1, rest.area2 ▸ area2, fun v hv => save v (rest.save ▸ hv),
        Pressure.next_eq_normal (marks h).1 _, rest.commitments ▸ places, ?_⟩
      simpa only [rest.commitments, rest.state] using none_
    · have := keeps.commitments h
      rw [commitmentsCounted_iff] at this ⊢
      rw [State.balance_evaluatePressure, this]
    · exact .of_lanes (State.evaluatePressure_lanes t) (keeps.lanes h)
  next unmarked' =>
    obtain ⟨high, -⟩ := unmarked (by simpa using unmarked')
    refine ⟨⟨keeps.pending, keeps.attention, keeps.accounts, keeps.types, keeps.dockets, fun h => keeps.pressure ?_⟩,
      keeps.commitments, keeps.lanes⟩
    obtain ⟨⟨-, high'⟩, area1, area2, save, below, rest'⟩ := h
    exact ⟨⟨apart, bounded high'⟩, area1, area2, save, fun normal => high.symm ▸ below normal, rest'⟩

theorem State.keeps_decideConfigWrite (items : List ConfigItem) (s : State) : Keeps s (decideConfigWrite items s).1 := by
  unfold decideConfigWrite
  split
  · rfl
  simp only
  split
  · rfl
  next apart =>
    split
    · rfl
    split
    · rfl
    refine State.keeps_writeSettings (fun v hv => ?_) (Nat.not_le.1 apart)
    obtain ⟨c, -, hc⟩ := List.mem_filterMap.1 hv
    exact highMark_le_of_settingOf hc

/-! ### Requests (R164) -/

theorem State.keeps_decideRequest (r : Request) (s : State) : Keeps s (decideRequest r s).1 := by
  cases r <;> simp only [decideRequest]
  case dayOpen => exact State.keeps_decideDayOpen _ s
  case dayClose => exact State.keeps_decideDayClose s
  case configWrite => exact State.keeps_decideConfigWrite _ s
  case configSave => exact State.keeps_decideConfigSave s
  case partReset => exact State.keeps_decidePartReset s
  case typeWrite => exact State.keeps_decideTypeWrite _ s
  case acctWrite => exact State.keeps_decideAcctWrite _ s
  case acctRange => unfold decideAcctRange; split; exacts [(State.unseen_windowReply _ s).keeps, .refl s]
  case acctNext => unfold decideAcctNext; split; exacts [(State.unseen_windowReply _ s).keeps, .refl s]
  case issue => exact State.keeps_decideIssue _ _ _ s
  case docketOpen => exact State.keeps_decideDocketOpen _ _ _ s
  case docketClose => exact State.keeps_decideDocketClose _ s
  case docketCancel => exact State.keeps_decideDocketCancel _ s
  case docketAdjust => exact State.keeps_decideDocketAdjust _ _ _ _ _ s
  case laneHold => exact State.keeps_decideLaneHold _ s
  case laneRelease => exact State.keeps_decideLaneRelease _ s
  case laneTrim => exact State.keeps_decideLaneTrim _ _ s
  case orderCancel => exact State.keeps_decideOrderCancel _ s
  case payCredit => exact State.keeps_decidePayCredit _ _ _ s
  case bayPower => unfold decideBayPower; split; exacts [(State.unseen_setPower _ _ s).keeps, .refl s]
  case ident => rfl
  case state => rfl
  case configRead => rfl
  case typeRead => unfold decideTypeRead; split <;> rfl
  case acctRead => unfold decideAcctRead; split <;> rfl
  case docketRead => unfold decideDocketRead; split; · rfl
                     split <;> rfl
  case laneRead => unfold decideLaneRead; split <;> rfl
  case settleRead => unfold decideSettleRead; split; · rfl
                     split <;> rfl
  case orderList => unfold decideOrderList; split; · rfl
                    split <;> rfl
  case bayRead => unfold decideBayRead; split <;> rfl

theorem Unseen.fillSlot (r : Reply) (s : State) : Unseen s (s.fillSlot r) := .port rfl

theorem State.keeps_dispatchRequest (r : Request) (s : State) : Keeps s (s.dispatchRequest r) :=
  .ite (fun _ => (State.keeps_decideRequest r s).trans (Unseen.fillSlot _ _).keeps) fun _ => (Unseen.fillSlot _ s).keeps

theorem State.keeps_dispatchFrame (f : Frame) (s : State) : Keeps s (s.dispatchFrame f) := by
  unfold State.dispatchFrame
  simp only
  split
  · split
    · exact (Unseen.fillSlot _ s).keeps
    · exact (Unseen.fillSlot _ s).keeps
    · exact State.keeps_dispatchRequest _ s
  · exact (Unseen.fillSlot _ s).keeps

theorem State.keeps_dispatchWaiting (s : State) : Keeps s s.dispatchWaiting := by
  unfold State.dispatchWaiting
  split
  · exact .of_port (State.keeps_dispatchFrame _ _) rfl
  · rfl

theorem State.keeps_frameCompleted (f : Frame) (s : State) : Keeps s (s.frameCompleted f) := by
  unfold State.frameCompleted
  split
  · exact Unseen.keeps (.port rfl)
  · exact .of_port (State.keeps_dispatchWaiting _) rfl

theorem State.keeps_request (r : Request) (s : State) : Keeps s (s.request r) := by
  have hunting : Unseen s { s with port := { s.port with rx := s.port.rx.abandon } } := .port rfl
  unfold State.request
  simp only
  split
  · exact hunting.keeps.trans (.ite (fun _ => State.keeps_dispatchRequest r _) fun _ => (Unseen.fillSlot _ _).keeps)
  · exact hunting.keeps.trans (State.keeps_frameCompleted _ _)

theorem State.keeps_hostCharacter (start t : Tick) (c : Cells) (s : State) : Keeps s (s.hostCharacter start t c) := by
  unfold State.hostCharacter
  simp only
  split
  · exact .of_port (State.keeps_frameCompleted _ _) rfl
  · exact Unseen.keeps (.port rfl)

/-! ### The transmitter (R165 to R168) -/

theorem State.keeps_clearSource (x : Source) (s : State) : Keeps s (s.clearSource x) := by
  cases x with
  | lane i => exact .modLane_alike rfl rfl rfl rfl rfl
  | bay b => exact (Unseen.modBay s b fun y => { y with flags := BayFlags.none }).keeps
  | queue => exact Unseen.keeps ⟨⟨rfl, rfl, rfl, rfl, rfl, rfl, rfl, rfl, rfl, rfl, rfl, id⟩, rfl⟩
  | part => exact Unseen.keeps ⟨⟨rfl, rfl, rfl, rfl, rfl, rfl, rfl, rfl, rfl, rfl, rfl, id⟩, rfl⟩

theorem State.keeps_beginNotice (x : Source) (s : State) : Keeps s (s.beginNotice x) :=
  (State.keeps_clearSource x s).trans (Unseen.port_of_nodup fun h => h.filter _).keeps

theorem State.keeps_transmit (s : State) : Keeps s s.transmit := by
  unfold State.transmit
  split
  · split
    · exact Unseen.keeps (.port rfl)
    · split
      · exact State.keeps_beginNotice _ s
      · rfl
  · rfl

theorem State.keeps_transmitAfterReply (s : State) : Keeps s s.transmitAfterReply := by
  unfold State.transmitAfterReply
  split
  · exact State.keeps_beginNotice _ s
  · exact State.keeps_transmit s

/-! ### Resets and the store (R177, R182, R183) -/

theorem tableConsistent_default : TableConsistent (Vector.replicate 24 TypeEntry.default) := by
  intro i j _
  simp [TypeEntry.duplicates, TypeEntry.overlaps, TypeEntry.tagged, TypeEntry.lengthOnly, TypeEntry.default]

theorem Settings.marksGood_default : Settings.default.MarksGood := by
  unfold Settings.MarksGood
  decide

/-- A property of the images that the defaults have too is one of what a load gives. -/
theorem PartUnit.area_cases {p : PartUnit} {P : StoreArea → Prop} (area1 : P p.area1) (area2 : P p.area2) (x : AreaId) :
    P (p.area x) := by
  cases x
  · exact area1
  · exact area2

theorem PartUnit.tableConsistent_loaded {p : PartUnit} (area1 : TableConsistent p.area1.types)
    (area2 : TableConsistent p.area2.types) : TableConsistent p.loadedTypes := by
  unfold PartUnit.loadedTypes
  split
  · exact PartUnit.area_cases (P := fun a => TableConsistent a.types) area1 area2 _
  · exact tableConsistent_default

theorem PartUnit.marksGood_loaded {p : PartUnit} (area1 : p.area1.settings.MarksGood) (area2 : p.area2.settings.MarksGood) :
    p.loadedSettings.MarksGood := by
  unfold PartUnit.loadedSettings
  split
  · exact PartUnit.area_cases (P := fun a => a.settings.MarksGood) area1 area2 _
  · exact Settings.marksGood_default

theorem State.keeps_finishStoreRead {s : State} (starting : s.part.state = .starting) : Keeps s s.finishStoreRead := by
  have up (b : BayId) (t : State) : Unseen t (t.autoPowerUp b) := .ite (State.unseen_enterPowering b t) (.refl t)
  refine .trans ?_ ((Unseen.raisePart _ _).trans ((up 0 _).trans (up 1 _))).keeps
  refine ⟨⟨rfl, id, id, fun h => ?_, id, fun h => ?_⟩, id, id⟩
  · obtain ⟨-, area1, area2, save⟩ := h
    exact ⟨PartUnit.tableConsistent_loaded area1 area2, area1, area2, save⟩
  · obtain ⟨-, area1, area2, save, -, places, none_⟩ := h
    have marks := PartUnit.marksGood_loaded area1 area2
    exact ⟨marks, area1, area2, save, fun _ => by rw [none_ starting]; exact (Nat.zero_le _).trans_lt marks.1, places, nofun⟩

/-- A property of both areas and of an image written over one of them. -/
theorem PartUnit.setArea_cases {p : PartUnit} {P : StoreArea → Prop} {a : StoreArea} (area1 : P p.area1) (area2 : P p.area2)
    (written : P a) (x : AreaId) : P (p.setArea x a).area1 ∧ P (p.setArea x a).area2 := by
  cases x
  · exact ⟨written, area2⟩
  · exact ⟨area1, written⟩

/-- An area written with an image whose table and marks are good. -/
theorem State.keeps_setArea {s : State} {v : Save} (x : AreaId) {a : StoreArea} (saving : s.part.save = some v)
    (types : a.types = v.image.types) (settings : a.settings = v.image.settings) (current : Option AreaId) :
    Keeps s { s with part := { s.part.setArea x a with save := none, current := current } } := by
  have state : (s.part.setArea x a).state = s.part.state := by cases x <;> rfl
  refine ⟨⟨rfl, id, id, fun h => ?_, id, fun h => ?_⟩, id, id⟩
  · obtain ⟨table, area1, area2, save⟩ := h
    obtain ⟨area1', area2'⟩ := PartUnit.setArea_cases (P := fun a => TableConsistent a.types) (a := a) area1 area2
      (types ▸ save v saving) x
    exact ⟨table, area1', area2', nofun⟩
  · obtain ⟨marks, area1, area2, save, below, places, none_⟩ := h
    obtain ⟨area1', area2'⟩ := PartUnit.setArea_cases (P := fun a => a.settings.MarksGood) (a := a) area1 area2
      (settings ▸ save v saving) x
    exact ⟨marks, area1', area2', nofun, below, places, fun h => none_ (state ▸ h)⟩

theorem State.keeps_finishSave (good : Bool) (s : State) : Keeps s (s.finishSave good) := by
  unfold State.finishSave
  split
  · rfl
  next v saving =>
    split
    · exact (State.keeps_setArea v.target saving rfl rfl _).trans (Unseen.raisePart _ _).keeps
    · have current : (s.part.setArea v.target { v.image with checkGood := false }).current = s.part.current := by
        cases v.target <;> rfl
      have failed := State.keeps_setArea v.target (a := { v.image with checkGood := false }) saving rfl rfl s.part.current
      rw [← current] at failed
      exact failed.trans (Unseen.raisePart _ _).keeps

/-- What a reset leaves of the store. -/
theorem PartUnit.reset_cases {p : PartUnit} {P : StoreArea → Prop} (area1 : P p.area1) (area2 : P p.area2)
    (save : ∀ v, p.save = some v → P { v.image with checkGood := false }) : P p.reset.area1 ∧ P p.reset.area2 := by
  unfold PartUnit.reset PartUnit.cutSave
  split
  · exact ⟨area1, area2⟩
  next v saving => exact PartUnit.setArea_cases area1 area2 (save v saving) v.target

theorem PartUnit.reset_save (p : PartUnit) : p.reset.save = none := by
  unfold PartUnit.reset PartUnit.cutSave
  split
  next none_ => exact none_
  · rfl

theorem Lane.sound_afterReset (a b neck damage home : Bool) : (Lane.afterReset a b neck damage home).Sound :=
  Lane.sound_of_clear (by simp [Lane.afterReset]) ⟨rfl, rfl⟩ (fun _ => rfl) (by simp [Lane.afterReset]) nofun

/-- A part without dockets or orders after a reset: only the store can differ. -/
theorem State.keeps_resetPart (s : State) : Keeps s s.resetPart := by
  have lane (i : LaneId) : s.resetPart.lane i = (s.lane i).reset (s.presentHome i) := by
    simp [State.resetPart, State.lane]
  have docket (i : LaneId) : (s.resetPart.lane i).docket = none := by rw [lane]; rfl
  refine ⟨⟨rfl, fun _ => List.nodup_nil, fun _ => ?_, fun h => ?_, fun _ => ?_, fun h => ?_⟩, fun _ => ?_, fun _ i => ?_⟩
  · have empty (i : Nat) : s.resetPart.account i = none := by
      simp only [State.account, State.resetPart, Vector.getElem?_replicate]
      split <;> rfl
    refine ⟨fun i a ha => ?_, fun i j a b ha => ?_⟩ <;> · rw [empty] at ha; cases ha
  · obtain ⟨-, area1, area2, save⟩ := h
    obtain ⟨area1', area2'⟩ := PartUnit.reset_cases (P := fun a => TableConsistent a.types) area1 area2 save
    exact ⟨tableConsistent_default, area1', area2', fun v hv => absurd (s.part.reset_save.symm.trans hv) nofun⟩
  · rw [docketsSound_iff]
    intro i d hd
    rw [docket] at hd
    cases hd
  · obtain ⟨-, area1, area2, save, -⟩ := h
    obtain ⟨area1', area2'⟩ := PartUnit.reset_cases (P := fun a => a.settings.MarksGood) area1 area2 save
    exact ⟨Settings.marksGood_default, area1', area2', fun v hv => absurd (s.part.reset_save.symm.trans hv) nofun,
      fun _ => show 0 < Settings.default.highMark by decide, Nat.zero_le _, fun _ => rfl⟩
  · rw [commitmentsCounted_iff, State.balance, Finset.sum_eq_zero fun i _ => by rw [Lane.commits_of_none (docket i)]; rfl]
    rfl
  · rw [lane]
    exact Lane.sound_afterReset _ _ _ _ _

theorem State.keeps_frameEnds (s : State) : Keeps s s.frameEnds := by
  unfold State.frameEnds
  split
  · rfl
  · exact .ite (fun _ => State.keeps_resetPart s) fun _ =>
      .of_port ((State.keeps_dispatchWaiting _).trans (State.keeps_transmitAfterReply _)) rfl
  · exact Unseen.keeps (.port rfl)

/-! ### Every command, and the step -/

/-- An event over: what it kept it keeps through the transmitter's choice. -/
theorem finish_keeps {s t : State} (h : Keeps s t) : ∃ u, finish t = .next u ∧ Keeps s u :=
  ⟨_, rfl, h.trans (State.keeps_transmit t)⟩

theorem State.keeps_expire {s : State} (due : Option Tick) {f : State → State}
    (h : ∀ d, due = some d → Keeps (s.reach d) (f (s.reach d))) : Keeps s (s.expire due f) := by
  cases due with
  | none => rfl
  | some d => exact (Unseen.reach s d).keeps.trans (h d rfl)

theorem Lane.state_of_stepDue {l : Lane} {st : LaneState} {d : Tick} (h : l.stepDue st = some d) : l.state = st := by
  unfold Lane.stepDue at h
  split at h
  · assumption
  · cases h

theorem Lane.state_of_arrivalDue {l : Lane} {n : Nat} {d : Tick} (h : l.arrivalDue n = some d) : l.state = .running := by
  unfold Lane.arrivalDue at h
  split at h
  · assumption
  · cases h

theorem Lane.state_of_clearDue {l : Lane} {n : Nat} {d : Tick} (h : l.clearDue n = some d) : l.state = .running := by
  unfold Lane.clearDue at h
  split at h
  · assumption
  · cases h

theorem State.tellHome_state (i : LaneId) (home : Bool) (s : State) :
    ((s.tellHome i home).lane i).state = (s.lane i).state := by
  simp [State.tellHome, State.settleHome]

/-- Every command answers a next state, and keeps every invariant and the queue behind it. -/
theorem exec_keeps (c : Instr) (s : State) : ∃ t, exec c s = .next t ∧ Keeps s t := by
  have at_ (t : Tick) {u : State} (h : Keeps (s.at t) u) : Keeps s u := (Unseen.at s t).keeps.trans h
  have bay (t : Tick) (b : BayId) (f : Bay → Bay) {u : State} (h : Keeps ((s.at t).modBay b f) u) : Keeps s u :=
    at_ t ((Unseen.modBay _ b f).keeps.trans h)
  cases c with
  | resetN => exact finish_keeps (State.keeps_resetPart s)
  | storeReadDone => exact finish_keeps (.ite (fun h => State.keeps_finishStoreRead h) fun _ => .refl s)
  | saveComplete good => exact finish_keeps (State.keeps_finishSave good s)
  | frameReceived start t cells =>
    exact finish_keeps (at_ t (.ite (fun _ => State.keeps_hostCharacter _ _ _ _) fun _ => .refl _))
  | rxGapTimeout =>
    have abandoned (t : State) : Unseen t { t with port := { t.port with rx := t.port.rx.abandon } } := .port rfl
    exact finish_keeps (.ite (fun _ => ((Unseen.reach s _).trans (abandoned _)).keeps) fun _ => .refl s)
  | frameSent => exact finish_keeps (State.keeps_frameEnds s)
  | aOn i t => exact finish_keeps (at_ t (State.keeps_beamA _ _ _))
  | aOff i t => exact finish_keeps (at_ t (State.keeps_beamA _ _ _))
  | bOn i t => exact finish_keeps (at_ t (State.keeps_beamB _ _ _))
  | bOff i t => exact finish_keeps (at_ t (State.keeps_beamB _ _ _))
  | neckEdge i t => exact finish_keeps (at_ t (State.keeps_neckBlocked _ _))
  | damagePress i t => exact finish_keeps (at_ t (State.keeps_damageLevel _ _ _))
  | damageRelease i t => exact finish_keeps (at_ t (State.keeps_damageLevel _ _ _))
  | tagByte i start t cells => exact finish_keeps (at_ t (State.keeps_tagCharacter _ _ _ _ _))
  | tagAssemblyTimeout i =>
    exact finish_keeps (State.keeps_expire _ fun _ _ => .modLane_alike rfl rfl rfl rfl rfl)
  | jam i beam => exact finish_keeps (State.keeps_expire _ fun _ _ => State.keeps_jamExpires _ _ _)
  | stepComplete i => exact finish_keeps (State.keeps_expire _ fun _ _ => State.keeps_completeStep _ _)
  | homingStepComplete i home =>
    refine finish_keeps (State.keeps_expire _ fun d hd => (State.keeps_tellHome _ _ _).trans (State.keeps_homingStep ?_))
    rw [State.tellHome_state, State.reach_lane]
    exact Lane.state_of_stepDue hd
  | gateArrival i seq =>
    refine finish_keeps (State.keeps_expire _ fun d hd => State.keeps_arrive _ ?_)
    rw [State.reach_lane]
    exact Lane.state_of_arrivalDue hd
  | gateClear i seq =>
    refine finish_keeps (State.keeps_expire _ fun d hd => State.keeps_clearGate _ ?_)
    rw [State.reach_lane]
    exact Lane.state_of_clearDue hd
  | quiet i => exact finish_keeps (State.keeps_expire _ fun _ _ => State.keeps_quietExpires _ _)
  | autoClosed i => exact finish_keeps (State.keeps_expire _ fun _ _ => State.keeps_autoCloseExpires _ _)
  | seatChange b contact closed kind1 kind2 t =>
    exact finish_keeps (at_ t (.ite (fun _ => .refl _) fun _ =>
      ((Unseen.modBay _ _ _).trans (State.unseen_followSeats _ _ _)).keeps))
  | poweringDone b ready fault =>
    exact finish_keeps (State.keeps_expire _ fun _ _ => ((Unseen.modBay _ _ _).trans (State.unseen_poweringEnds _ _)).keeps)
  | noReady b => exact finish_keeps (State.keeps_expire _ fun _ _ => (State.unseen_moduleFails _ _ _).keeps)
  | modReadyAsserted b t => exact finish_keeps (bay t b _ (State.unseen_readyAsserted _ _).keeps)
  | modReadyReleased b t => exact finish_keeps (bay t b _ (State.unseen_readyReleased _ _).keeps)
  | modFaultAsserted b t => exact finish_keeps (bay t b _ (State.unseen_moduleFails _ _ _).keeps)
  | unitDone b t => exact finish_keeps (bay t b _ (State.keeps_confirmation _ _))
  | unitReqPulseEnd b => exact finish_keeps (State.keeps_expire _ fun _ _ => (State.unseen_pulseEnds _ _).keeps)
  | nextUnitStart b => exact finish_keeps (State.keeps_expire _ fun _ _ => (State.unseen_startUnit _ _).keeps)
  | unitTimeout b => exact finish_keeps (State.keeps_expire _ fun _ _ => (State.unseen_moduleFails _ _ _).keeps)
  | printSent b => exact finish_keeps (State.unseen_printFrameSent b s).keeps
  | bayFrameReceived b start t cells =>
    exact finish_keeps (at_ t (.ite (fun _ => State.keeps_bayCharacter _ _ _ _ _) fun _ => .refl _))
  | bayRxGapTimeout b =>
    exact finish_keeps (.ite (fun _ => ((Unseen.reach s _).trans (.modBay _ _ _)).keeps) fun _ => .refl s)
  | printTimeout b => exact finish_keeps (State.keeps_expire _ fun _ _ => (State.unseen_moduleFails _ _ _).keeps)
  | rxByte start t cells => exact finish_keeps (at_ t (State.keeps_hostCharacter _ _ _ _))
  | bayRxByte b start t cells => exact finish_keeps (at_ t (State.keeps_bayCharacter _ _ _ _ _))
  | _ => exact finish_keeps (State.keeps_request _ s)

theorem State.keeps_idleTick (s : State) : Keeps s s.idleTick := by
  have tick : Unseen s { s with tick := s.tick + 1 } := .at s _
  exact tick.keeps.trans <| (State.keeps_tickLane _ 0).trans <| (State.keeps_tickLane _ 1).trans <|
    (State.keeps_tickLane _ 2).trans <| (State.keeps_tickLane _ 3).trans <| (State.keeps_tickBay _ 0).trans <|
    (State.keeps_tickBay _ 1).trans (State.keeps_transmit _)

/-- Every step answers a next state and keeps every invariant: of the queue of commands none of them reads anything. -/
theorem step_keeps (s : State) : ∃ (s₀ t : State), step s = .next t ∧ Keeps s₀ t ∧ s₀ = { s with pending := s₀.pending } := by
  unfold step
  split
  · exact ⟨s, _, rfl, State.keeps_idleTick s, rfl⟩
  next c rest _ =>
    obtain ⟨t, ht, keeps⟩ := exec_keeps c { s with pending := rest }
    exact ⟨_, t, ht, keeps, rfl⟩

/-- Settles O53: the attention part of `Keeps`. -/
theorem stepKeepsAttentionOnce : Obligations.StepKeepsAttentionOnce := by
  intro s h
  obtain ⟨s₀, t, ht, keeps, same⟩ := step_keeps s
  exact ⟨t, ht, keeps.attention (by rw [same]; exact h)⟩

/-- Settles O54: the accounts part of `Keeps`. -/
theorem stepKeepsAccountsSound : Obligations.StepKeepsAccountsSound := by
  intro s h
  obtain ⟨s₀, t, ht, keeps, same⟩ := step_keeps s
  exact ⟨t, ht, keeps.accounts (by rw [same]; exact h)⟩

/-- Settles O55: the types part of `Keeps`. -/
theorem stepKeepsTypesSound : Obligations.StepKeepsTypesSound := by
  intro s h
  obtain ⟨s₀, t, ht, keeps, same⟩ := step_keeps s
  exact ⟨t, ht, keeps.types (by rw [same]; exact h)⟩

/-- Settles O56: the lanes part of `Keeps`. -/
theorem stepKeepsLanesSound : Obligations.StepKeepsLanesSound := by
  intro s h
  obtain ⟨s₀, t, ht, keeps, same⟩ := step_keeps s
  exact ⟨t, ht, keeps.lanes (by rw [same]; exact h)⟩

/-- Settles O57: the dockets part of `Keeps`. -/
theorem stepKeepsDocketsSound : Obligations.StepKeepsDocketsSound := by
  intro s h
  obtain ⟨s₀, t, ht, keeps, same⟩ := step_keeps s
  exact ⟨t, ht, keeps.dockets (by rw [same]; exact h)⟩

/-- Settles O58: the commitments part of `Keeps`. -/
theorem stepKeepsCommitmentsCounted : Obligations.StepKeepsCommitmentsCounted := by
  intro s h
  obtain ⟨s₀, t, ht, keeps, same⟩ := step_keeps s
  exact ⟨t, ht, keeps.commitments (by rw [same]; exact h)⟩

/-- Settles O59: the pressure part of `Keeps`. -/
theorem stepKeepsPressureSound : Obligations.StepKeepsPressureSound := by
  intro s h
  obtain ⟨s₀, t, ht, keeps, same⟩ := step_keeps s
  exact ⟨t, ht, keeps.pressure (by rw [same]; exact h)⟩

/-- Settles O3: `Keeps` carries the queue of commands beside the invariants. -/
theorem everyCommandCompletes : Obligations.EveryCommandCompletes := fun c s => by
  obtain ⟨t, ht, keeps⟩ := exec_keeps c s
  exact ⟨t, ht, keeps.pending⟩

/-- Settles O1: `step` unfolded on a queue with a command in front. -/
theorem stepRunsFrontCommand : Obligations.StepRunsFrontCommand := by
  intro c rest s h
  rw [step, h]

/-- Settles O60: right after reset there is no account, docket, order or attention, and every table is the default one. -/
theorem resetIsSound : Obligations.ResetIsSound := by
  have lane (i : LaneId) : State.reset.lane i = Lane.afterReset false false false false (Config.divHome i 0 0) := by
    simp [State.reset, State.lane]
  have empty (i : Nat) : State.reset.account i = none := by
    simp only [State.account, State.reset, Vector.getElem?_replicate]
    split <;> rfl
  refine ⟨List.nodup_nil, ⟨fun i a ha => ?_, fun i j a b ha => ?_⟩, ?_, fun i => ?_, ?_, ?_, ?_⟩
  · rw [empty] at ha; cases ha
  · rw [empty] at ha; cases ha
  · exact ⟨tableConsistent_default, tableConsistent_default, tableConsistent_default, nofun⟩
  · rw [lane]; exact Lane.sound_afterReset _ _ _ _ _
  · rw [docketsSound_iff]
    intro i d hd
    rw [lane] at hd
    cases hd
  · rw [commitmentsCounted_iff, State.balance, Finset.sum_eq_zero fun i _ => by rw [lane]; rfl]
    rfl
  · exact ⟨Settings.marksGood_default, Settings.marksGood_default, Settings.marksGood_default, nofun, fun _ => by decide,
      by decide, fun _ => rfl⟩

end Sys2Proof.Machine
end

section
/-! PROOF. The message port's frames: a request read back from its frame (R172, R173), the frame's sum (R161), a receiver
character by character (R160, R162), and the way of a completed frame to the dispatcher (R163, R164). -/

namespace Sys2Proof.Machine

/-! ### Numbers in bytes (R172) -/

theorem byteOf_toNat (n : Nat) : (byteOf n).toNat = n % 256 := BitVec.toNat_ofNat n 8

theorem toNat_byteOf_of_fits {n : Nat} (h : fits 1 n = true) : (byteOf n).toNat = n := by
  rw [byteOf_toNat]
  simp only [fits, decide_eq_true_eq] at h
  omega

theorem word2_le2 {n : Nat} (h : fits 2 n = true) : word2 (byteOf n) (byteOf (n / 256)) = n := by
  simp only [fits, decide_eq_true_eq] at h
  simp only [word2, byteOf_toNat]
  omega

theorem word4_le4 {n : Nat} (h : fits 4 n = true) :
    word4 (byteOf n) (byteOf (n / 256)) (byteOf (n / 65536)) (byteOf (n / 16777216)) = n := by
  simp only [fits, decide_eq_true_eq] at h
  simp only [word4, byteOf_toNat]
  omega

theorem signedWord2_signed2 {x : Int} (h : fitsSigned 2 x = true) :
    signedWord2 (byteOf (BitVec.ofInt 16 x).toNat) (byteOf ((BitVec.ofInt 16 x).toNat / 256)) = x := by
  have small : fits 2 (BitVec.ofInt 16 x).toNat = true := decide_eq_true (BitVec.ofInt 16 x).isLt
  rw [signedWord2, word2_le2 small, BitVec.ofNat_toNat, BitVec.setWidth_eq, BitVec.toInt_ofInt]
  simp only [fitsSigned, Bool.and_eq_true, decide_eq_true_eq] at h
  exact Int.bmod_eq_of_le (by omega) (by omega)

theorem toInt_signed1 {x : Int} (h : fitsSigned 1 x = true) : (BitVec.ofInt 8 x).toInt = x := by
  rw [BitVec.toInt_ofInt]
  simp only [fitsSigned, Bool.and_eq_true, decide_eq_true_eq] at h
  exact Int.bmod_eq_of_le (by omega) (by omega)

/-- The two flags of a byte that carries two. -/
theorem getLsbD_byteOf_bitsByte (a b : Bool) :
    (byteOf (bitsByte [a, b])).getLsbD 0 = a ∧ (byteOf (bitsByte [a, b])).getLsbD 1 = b := by
  cases a <;> cases b <;> decide

/-! ### Records and items read back (R173) -/

theorem decodeTypeEntry_encode {e : TypeEntryData} (h : e.wellFormed = true) : decodeTypeEntry (encodeTypeEntry e) = some e := by
  simp only [TypeEntryData.wellFormed, Bool.and_eq_true, and_assoc] at h
  obtain ⟨index, owner, tag, low, high, slots, deposit, bottle, damaged, surplus⟩ := h
  obtain ⟨enabled, keg⟩ := getLsbD_byteOf_bitsByte e.enabled e.keg
  simp only [encodeTypeEntry, le2, List.cons_append, List.nil_append, decodeTypeEntry, toNat_byteOf_of_fits, word2_le2,
    enabled, keg, index, owner, tag, low, high, slots, deposit, bottle, damaged, surplus]

theorem decodePairs_encode : ∀ {ps : List (Nat × Nat)}, (∀ p ∈ ps, fits 1 p.1 = true ∧ fits 2 p.2 = true) →
    decodePairs (encodePairs ps) = some ps
  | [], _ => rfl
  | p :: ps, h => by
    obtain ⟨type, count⟩ := h p (by simp)
    have rest := decodePairs_encode fun q hq => h q (List.mem_cons_of_mem _ hq)
    show (decodePairs (encodePairs ps)).map (((byteOf p.1).toNat, word2 (byteOf p.2) (byteOf (p.2 / 256))) :: ·) = _
    rw [rest, toNat_byteOf_of_fits type, word2_le2 count]
    rfl

theorem decodeAccount_encode {a : AccountData} (h : a.wellFormed = true) : decodeAccount (encodeAccount a) = some a := by
  simp only [AccountData.wellFormed, Bool.and_eq_true, decide_eq_true_eq, List.all_eq_true, and_assoc] at h
  obtain ⟨index, state, number, cap, paid, credit, few, pairs⟩ := h
  obtain ⟨cash, voucher⟩ := getLsbD_byteOf_bitsByte a.cash a.voucher
  have count : (byteOf a.pairs.length).toNat = a.pairs.length := by rw [byteOf_toNat]; omega
  simp only [encodeAccount, le4, List.cons_append, List.nil_append, decodeAccount, decodePairs_encode pairs, count, if_true,
    toNat_byteOf_of_fits, word4_le4, cash, voucher, index, state, number, cap, paid, credit]

theorem decodeItems_encode : ∀ {cs : List ConfigItem}, cs.all ConfigItem.wellFormed = true →
    decodeItems (cs.flatMap encodeItem) = some cs
  | [], _ => rfl
  | c :: cs, h => by
    simp only [List.all_cons, Bool.and_eq_true] at h
    obtain ⟨this, others⟩ := h
    simp only [ConfigItem.wellFormed, Bool.and_eq_true, and_assoc] at this
    obtain ⟨code, index, value⟩ := this
    simp [encodeItem, le2, decodeItems, decodeItems_encode others, toNat_byteOf_of_fits, word2_le2, code, index, value]

theorem decodeConfigWrite_encode {cs : List ConfigItem} (low : 1 ≤ cs.length) (high : cs.length ≤ 62)
    (good : cs.all ConfigItem.wellFormed = true) :
    decodeConfigWrite (byteOf cs.length :: cs.flatMap encodeItem) = .request (.configWrite cs) := by
  have count : (byteOf cs.length).toNat = cs.length := by rw [byteOf_toNat]; omega
  simp [decodeConfigWrite, decodeItems_encode good, count, itemCountGood, low, high]

/-- Settles O4: kind by kind, each field is read from the bytes that carry it. -/
theorem requestFrameRoundTrip : Obligations.RequestFrameRoundTrip := by
  intro r h
  cases r with
  | configWrite items =>
    simp only [Request.wellFormed, Bool.and_eq_true, decide_eq_true_eq] at h
    exact decodeConfigWrite_encode h.1.1 h.1.2 h.2
  | typeWrite entry =>
    show Parsed.ofOption ((decodeTypeEntry (encodeTypeEntry entry)).map .typeWrite) = _
    rw [decodeTypeEntry_encode h]
    rfl
  | acctWrite record =>
    show Parsed.ofOption ((decodeAccount (encodeAccount record)).map .acctWrite) = _
    rw [decodeAccount_encode h]
    rfl
  | docketAdjust lane type condition bottles delta =>
    simp only [Request.wellFormed, Bool.and_eq_true, and_assoc] at h
    obtain ⟨lane, type, condition, bottles, delta⟩ := h
    show Parsed.request (.docketAdjust _ _ _ _ (signedWord2 _ _)) = _
    rw [signedWord2_signed2 delta, toNat_byteOf_of_fits lane, toNat_byteOf_of_fits type, toNat_byteOf_of_fits condition,
      toNat_byteOf_of_fits bottles]
  | laneTrim lane steps =>
    simp only [Request.wellFormed, Bool.and_eq_true] at h
    obtain ⟨lane, steps⟩ := h
    show Parsed.request (.laneTrim _ (BitVec.toInt _)) = _
    rw [toInt_signed1 steps, toNat_byteOf_of_fits lane]
  | _ =>
    simp only [Request.wellFormed, Bool.and_eq_true, and_assoc] at h
    simp [parseRequest, kindOf, payloadOf, decode0, decode1, decode11, decode2, decodeIssue, decodeDocketOpen,
      decodeSettleRead, decodePayCredit, le2, le4, toNat_byteOf_of_fits, word2_le2, word4_le4, h]

/-! ### The sum of a frame (R161) -/

theorem sumBytes_eq_sum (bs : List Byte) : sumBytes bs = bs.sum := by
  rw [sumBytes, List.sum_eq_foldl]

/-- The CHECK byte after a frame's LEN and body. -/
theorem frameOf_eq (body : List Byte) :
    frameOf body = 0xA7 :: byteOf body.length :: (body ++ [-(byteOf body.length + body.sum)]) := by
  rw [← sumBytes_eq_sum]
  rfl

/-- Settles O5. -/
theorem frameSumsToZero : Obligations.FrameSumsToZero := by
  intro body r _ short
  have len : (byteOf body.length).toNat = body.length := by rw [byteOf_toNat]; omega
  refine ⟨_, frameOf_eq body, len, BitVec.add_right_neg _, ?_⟩
  simp only [assemble, len, lt_irrefl, if_false, sumBytes_eq_sum, BitVec.add_right_neg]
  rfl

/-! ### A receiver character by character (R160, R162) -/

section

variable {r : FrameReceiver} {start t : Tick} {c : Cells} {b : Byte}

theorem FrameReceiver.take_dropped (h : readCharacter c = .dropped) :
    r.take start t c = ⟨{ r with waitHigh := false }, none⟩ := by
  rw [FrameReceiver.take, h]

theorem FrameReceiver.take_framingError (h : readCharacter c = .framingError) : r.take start t c = ⟨⟨none, t, true⟩, none⟩ := by
  rw [FrameReceiver.take, h]

theorem FrameReceiver.take_hunting (h : readCharacter c = .byte b) (hunts : r.buffer = none) :
    r.take start t c = ⟨⟨if b = 0xA7 then some [] else none, t, false⟩, none⟩ := by
  rw [FrameReceiver.take, h, hunts]
  rfl

theorem FrameReceiver.take_late {bs : List Byte} (h : readCharacter c = .byte b) (frame : r.buffer = some bs)
    (late : 80 < Tick.since start r.lastStop) :
    r.take start t c = ⟨⟨if b = 0xA7 then some [] else none, t, false⟩, none⟩ := by
  simp only [FrameReceiver.take, h, frame]
  exact if_pos late

theorem FrameReceiver.take_onTime {bs : List Byte} (h : readCharacter c = .byte b) (frame : r.buffer = some bs)
    (onTime : Tick.since start r.lastStop ≤ 80) : r.take start t c = assemble ⟨some bs, t, false⟩ bs b := by
  simp only [FrameReceiver.take, h, frame]
  exact if_neg (Nat.not_lt.2 onTime)

theorem FrameReceiver.take_len (h : readCharacter c = .byte b) (frame : r.buffer = some [])
    (onTime : Tick.since start r.lastStop ≤ 80) :
    r.take start t c = ⟨⟨if b = 0 ∨ 250 < b.toNat then none else some [b], t, false⟩, none⟩ := by
  have zero : b = 0 ↔ b.toNat = 0 := ⟨fun e => e ▸ rfl, fun e => BitVec.eq_of_toNat_eq e⟩
  rw [FrameReceiver.take_onTime h frame onTime, assemble]
  by_cases bad : b = 0 ∨ 250 < b.toNat
  · rw [if_pos bad, if_neg (by rw [zero] at bad; omega)]
  · rw [if_neg bad, if_pos (by rw [zero] at bad; omega)]

theorem FrameReceiver.take_body {len : Byte} {body : List Byte} (h : readCharacter c = .byte b)
    (frame : r.buffer = some (len :: body)) (room : body.length < len.toNat) (onTime : Tick.since start r.lastStop ≤ 80) :
    r.take start t c = ⟨⟨some (len :: body ++ [b]), t, false⟩, none⟩ := by
  rw [FrameReceiver.take_onTime h frame onTime, assemble, if_pos room]

theorem FrameReceiver.take_check {len : Byte} {body : List Byte} (h : readCharacter c = .byte b)
    (frame : r.buffer = some (len :: body)) (full : body.length = len.toNat) (onTime : Tick.since start r.lastStop ≤ 80) :
    r.take start t c = ⟨⟨none, t, false⟩, some ⟨body, decide (len + sumBytes body + b = 0)⟩⟩ := by
  rw [FrameReceiver.take_onTime h frame onTime, assemble, if_neg (by omega)]

theorem FrameReceiver.awaitsCheck_iff :
    r.awaitsCheck = true ↔ ∃ len body, r.buffer = some (len :: body) ∧ body.length = len.toNat := by
  unfold FrameReceiver.awaitsCheck
  split
  next len body frame => simp [frame]
  next other =>
    simp only [Bool.false_eq_true, false_iff]
    rintro ⟨len, body, frame, -⟩
    exact other len body frame

end

/-! ### The host line (R162) -/

/-- A character on RXD that completes no frame changes the receiver alone. -/
theorem exec_rxByte_of_take {start t : Tick} {c : Cells} {s : State} {rx : FrameReceiver}
    (h : s.port.rx.take start t c = ⟨rx, none⟩) :
    exec (.rxByte start t c) s = .next ({ s.at t with port := { s.port with rx := rx } }).transmit := by
  show finish ((s.at t).hostCharacter start t c) = _
  rw [State.hostCharacter, State.at_port, h]
  rfl

/-- With a CHECK byte due FRAME_RECEIVED is RX_BYTE. -/
theorem exec_frameReceived_of_due {start t : Tick} {c : Cells} {s : State} (h : s.port.rx.awaitsCheck = true) :
    exec (.frameReceived start t c) s = exec (.rxByte start t c) s := by
  show finish (if s.port.rx.awaitsCheck = true then (s.at t).hostCharacter start t c else s.at t) = _
  rw [if_pos h]
  rfl

theorem exec_rxGapTimeout (s : State) : exec .rxGapTimeout s = finish (if s.port.rx.buffer.isSome then
    { s.reach (s.port.rx.lastStop + 81) with port := { s.port with rx := { s.port.rx with buffer := none } } } else s) := by
  show finish (if s.port.rx.buffer.isSome then _ else s) = _
  simp only [FrameReceiver.gapEnds, State.reach_port]
  rfl

/-- Settles O10: each clause is what the receiver does with that character. -/
theorem receiverAssembles : Obligations.ReceiverAssembles := by
  intro start t c s b
  refine ⟨fun h => ?_, fun h hunts => ?_, fun h frame onTime => ?_, fun len body h frame room onTime => ?_,
    fun bs h frame late => ?_, fun h => ?_, fun len body frame full => ?_, fun notDue => ?_, fun bs frame => ?_, fun hunts => ?_⟩
  · exact exec_rxByte_of_take (FrameReceiver.take_framingError h)
  · exact exec_rxByte_of_take (FrameReceiver.take_hunting h hunts)
  · exact exec_rxByte_of_take (FrameReceiver.take_len h frame onTime)
  · exact exec_rxByte_of_take (FrameReceiver.take_body h frame room onTime)
  · exact exec_rxByte_of_take (FrameReceiver.take_late h frame late)
  · exact exec_rxByte_of_take (FrameReceiver.take_dropped h)
  · exact exec_frameReceived_of_due (FrameReceiver.awaitsCheck_iff.2 ⟨len, body, frame, full⟩)
  · have none_ : ¬ s.port.rx.awaitsCheck = true := by
      rw [FrameReceiver.awaitsCheck_iff]
      rintro ⟨len, body, frame, full⟩
      exact notDue len body frame full
    show finish (if s.port.rx.awaitsCheck = true then (s.at t).hostCharacter start t c else s.at t) = _
    rw [if_neg none_]
    rfl
  · rw [exec_rxGapTimeout, if_pos (by rw [frame]; rfl)]
    rfl
  · rw [exec_rxGapTimeout, if_neg (by rw [hunts]; decide)]
    rfl

/-! ### From the completed frame to the dispatcher (R163, R164) -/

/-- A request command is the completion of that request's frame (log entry 1). -/
theorem exec_of_request {c : Instr} {r : Request} (s : State) (h : c.request? = some r) : exec c s = finish (s.request r) := by
  cases c <;> cases h <;> rfl

theorem State.request_of_taken (r : Request) {s : State} (taken : s.port.slot ≠ none) :
    s.request r = s.heard.frameCompleted (requestFrame r) := by
  unfold State.request
  split
  next slot => exact absurd slot taken
  · rfl

theorem State.frameCompleted_lost (f : Frame) {s : State} (full : s.port.waiting ≠ none) :
    s.frameCompleted f = { s with port := { s.port with overrun := true } } := by
  unfold State.frameCompleted
  split
  · rfl
  next none_ => exact absurd none_ full

theorem State.frameCompleted_waits (f : Frame) {s : State} (empty : s.port.waiting = none) (taken : s.port.slot ≠ none) :
    s.frameCompleted f = { s with port := { s.port with waiting := some f } } := by
  simp only [State.frameCompleted, empty, State.dispatchWaiting]
  split
  next slot => exact absurd slot taken
  · rfl

theorem State.frameCompleted_free (f : Frame) {s : State} (free : s.free) : s.frameCompleted f = s.dispatchFrame f := by
  obtain ⟨empty, slot⟩ := free
  have emptied : { s with port := { s.port with waiting := none } } = s := by rw [← empty]
  simp only [State.frameCompleted, empty]
  unfold State.dispatchWaiting
  split
  next g waits _ => cases waits; exact congrArg _ emptied
  next other => exact absurd slot (other f rfl)

/-- Settles O6. -/
theorem completedFramesWaitOrAreDispatched : Obligations.CompletedFramesWaitOrAreDispatched := by
  refine ⟨fun c r s request taken => ?_, fun start t c s b len body character frame full onTime => ?_⟩
  · rw [exec_of_request s request, State.request_of_taken r taken]
    exact ⟨fun empty => congrArg finish (State.frameCompleted_waits (s := s.heard) _ empty taken),
      fun waits => congrArg finish (State.frameCompleted_lost (s := s.heard) _ waits)⟩
  · intro f u
    have completed : exec (.frameReceived start t c) s = finish (u.frameCompleted f) := by
      rw [exec_frameReceived_of_due (FrameReceiver.awaitsCheck_iff.2 ⟨len, body, frame, full⟩)]
      show finish ((s.at t).hostCharacter start t c) = _
      rw [State.hostCharacter, State.at_port, FrameReceiver.take_check character frame full onTime]
    rw [completed]
    exact ⟨fun waits => congrArg finish (State.frameCompleted_lost (s := u) f waits),
      fun empty taken => congrArg finish (State.frameCompleted_waits (s := u) f empty taken),
      fun free => congrArg finish (State.frameCompleted_free (s := u) f free)⟩

/-! ### The dispatcher (R164, R170) -/

section

variable {f : Frame} (s : State) (good : f.sumGood = true)

theorem State.dispatchFrame_badSum (bad : f.sumGood = false) : s.dispatchFrame f = s.fillSlot ⟨0x7F, 1, [f.body.headD 0]⟩ := by
  simp only [State.dispatchFrame, bad, Bool.false_eq_true, if_false]
  rfl

include good

theorem State.dispatchFrame_unknownKind (h : parseRequest (f.body.headD 0) f.body.tail = .unknownKind) :
    s.dispatchFrame f = s.fillSlot ⟨0x7F, 2, [f.body.headD 0]⟩ := by
  simp only [State.dispatchFrame, good, if_true, h]
  rfl

theorem State.dispatchFrame_badLength (h : parseRequest (f.body.headD 0) f.body.tail = .badLength) :
    s.dispatchFrame f = s.fillSlot ⟨0x7F, 3, [f.body.headD 0]⟩ := by
  simp only [State.dispatchFrame, good, if_true, h]
  rfl

theorem State.dispatchFrame_request {r : Request} (h : parseRequest (f.body.headD 0) f.body.tail = .request r) :
    s.dispatchFrame f = s.dispatchRequest r := by
  simp only [State.dispatchFrame, good, if_true, h]

end

theorem State.dispatchRequest_refused {r : Request} {s : State} (h : s.part.state.takes r = false) :
    s.dispatchRequest r = s.answered r .badState [] := by
  simp only [State.dispatchRequest, h, Bool.false_eq_true, if_false]
  rfl

theorem State.dispatchRequest_taken {r : Request} {s : State} (h : s.part.state.takes r = true) :
    s.dispatchRequest r = (decideRequest r s).1.answered r (decideRequest r s).2.status (decideRequest r s).2.payload := by
  simp only [State.dispatchRequest, h, if_true]
  rfl

/-- With the port free a request's frame is dispatched on the event that completes it. -/
theorem State.request_of_free {r : Request} {s : State} (free : s.free) (good : Request.lengthGood r = true) :
    s.request r = s.heard.dispatchRequest r := by
  obtain ⟨empty, slot⟩ := free
  unfold State.request
  split
  · simp only [State.takeRequest, good, if_true]
    rfl
  next other => exact absurd slot (other empty)

/-- Whether a frame that was read carries a request of the length its kind requires. -/
def Parsed.lengthGood : Parsed → Bool
  | .request r => Request.lengthGood r
  | _ => true

theorem decodeConfigWrite_lengthGood (p : List Byte) : (decodeConfigWrite p).lengthGood = true := by
  unfold decodeConfigWrite
  split
  · split
    · split
      next items _ count => exact (congrArg itemCountGood count.1).trans count.2
      · rfl
    · rfl
  · rfl

/-- Check 3 of R164 leaves only requests of the length their kind requires. -/
theorem parseRequest_lengthGood (kind : Byte) (p : List Byte) : (parseRequest kind p).lengthGood = true := by
  unfold parseRequest
  split
  case h_5 => exact decodeConfigWrite_lengthGood p
  case h_9 => cases decodeTypeEntry p <;> rfl
  case h_11 => cases decodeAccount p <;> rfl
  case h_31 => rfl
  all_goals
    simp only [decode0, decode1, decode11, decode2, decodeIssue, decodeDocketOpen, decodeDocketAdjust, decodeLaneTrim,
      decodeSettleRead, decodePayCredit]
    split <;> rfl

theorem lengthGood_of_parse {kind : Byte} {p : List Byte} {r : Request} (h : parseRequest kind p = .request r) :
    Request.lengthGood r = true := by
  have good := parseRequest_lengthGood kind p
  rwa [h] at good

theorem Request.lengthGood_of_wellFormed {r : Request} (h : r.wellFormed = true) : Request.lengthGood r = true := by
  cases r with
  | configWrite items =>
    simp only [Request.wellFormed, Bool.and_eq_true, decide_eq_true_eq] at h
    simp [Request.lengthGood, itemCountGood, h]
  | _ => rfl

/-- Settles O7. -/
theorem dispatchChecksInOrder : Obligations.DispatchChecksInOrder := by
  refine ⟨fun f s => ⟨s.dispatchFrame_badSum, s.dispatchFrame_unknownKind, s.dispatchFrame_badLength,
    fun r good read => ⟨fun refused => ?_, fun taken => ?_, fun c request free => ?_⟩⟩,
    fun c r s request wellFormed free refuses => ?_⟩
  · rw [s.dispatchFrame_request good read, State.dispatchRequest_refused refused]
  · rw [s.dispatchFrame_request good read, State.dispatchRequest_taken taken]
  · rw [exec_of_request s request, State.request_of_free free (lengthGood_of_parse read), s.heard.dispatchFrame_request good read]
    rfl
  · have refused : s.part.state.takes r = false := by
      obtain ⟨starting, ident, state⟩ | ⟨closed, ⟨l, a, m, rfl⟩ | ⟨a, m, x, rfl⟩ | rfl⟩ | ⟨opened, d, rfl⟩ := refuses
      · rw [starting, PartState.takes]
        · exact ident
        · exact state
      · rw [closed]; rfl
      · rw [closed]; rfl
      · rw [closed]; rfl
      · rw [opened]; rfl
    rw [exec_of_request s request, State.request_of_free free (Request.lengthGood_of_wellFormed wellFormed),
      State.dispatchRequest_refused (by exact refused)]
    rfl

end Sys2Proof.Machine
end

section
/-! PROOF. The transmitter's choice and the bytes of each notice (R165, R166, R168, R175), and what the end of a frame brings
about (R164, R166, R183). -/

namespace Sys2Proof.Machine

/-! ### Bits of a byte as a sum (R172) -/

theorem bitsByte_two (a b : Bool) : bitsByte [a, b] = a.toNat + 2 * b.toNat := by
  simp only [bitsByte_cons, bitsByte_nil]; omega

theorem bitsByte_three (a b c : Bool) : bitsByte [a, b, c] = a.toNat + 2 * b.toNat + 4 * c.toNat := by
  simp only [bitsByte_cons, bitsByte_nil]; omega

theorem bitsByte_six (a b c d e f : Bool) : bitsByte [a, b, c, d, e, f]
    = a.toNat + 2 * b.toNat + 4 * c.toNat + 8 * d.toNat + 16 * e.toNat + 32 * f.toNat := by
  simp only [bitsByte_cons, bitsByte_nil]; omega

theorem bitsByte_seven (a b c d e f g : Bool) : bitsByte [a, b, c, d, e, f, g]
    = a.toNat + 2 * b.toNat + 4 * c.toNat + 8 * d.toNat + 16 * e.toNat + 32 * f.toNat + 64 * g.toNat := by
  simp only [bitsByte_cons, bitsByte_nil]; omega

theorem holdByte_eq (h : HoldSet) : holdByte h = [byteOf (h.crowded.toNat + 2 * h.strayAtB.toNat + 4 * h.jam.toNat
    + 8 * h.lateDivert.toNat + 16 * h.diverterHome.toNat + 32 * h.requested.toNat + 64 * h.cancelled.toNat)] := by
  rw [holdByte, presence, bitsByte_seven]

theorem laneFlagBits_eq (f : LaneFlags) : laneFlagBits f = f.commit.toNat + 2 * f.refused.toNat + 4 * f.misrouted.toNat
    + 8 * f.voided.toNat + 16 * f.quiet.toNat + 32 * f.autoClosed.toNat + 64 * f.settled.toNat + 128 * f.held.toNat
    + 256 * f.released.toNat + 512 * f.damageIgnored.toNat + 1024 * f.tagIgnored.toNat + 2048 * f.docketFull.toNat := by
  simp only [laneFlagBits, bitsByte_cons, bitsByte_nil]; omega

/-! ### What a bay serves -/

theorem servedOrder_of_serves {s : State} {b : BayId} {order : Option PayOrder} (h : s.bayServes b order) :
    servedOrder s.queue.orders (s.bay b) = order := by
  obtain ⟨number, pending⟩ := h
  rw [servedOrder, number]
  cases order with
  | none => rfl
  | some o => exact pending o rfl

/-! ### The notices (R175) -/

theorem laneNotice_eq (i : LaneId) (l : Lane) :
    laneNotice i l = [0x70, byteOf i.val, byteOf l.state.code,
        byteOf (l.holds.crowded.toNat + 2 * l.holds.strayAtB.toNat + 4 * l.holds.jam.toNat + 8 * l.holds.lateDivert.toNat
          + 16 * l.holds.diverterHome.toNat + 32 * l.holds.requested.toNat + 64 * l.holds.cancelled.toNat)]
      ++ le2 (laneFlagBits l.flags)
      ++ [byteOf l.voidCount,
        byteOf (l.docket.isSome.toNat + 2 * l.lastRefuse.isSome.toNat + 4 * l.lastSettled.isSome.toNat)]
      ++ optBytes docketNoticeBytes l.docket ++ optBytes (fun r => b1 r.code) l.lastRefuse ++ optBytes le2 l.lastSettled := by
  simp only [laneNotice, holdByte_eq, presence, bitsByte_three, b1, List.cons_append, List.nil_append, List.append_assoc]

theorem bayNotice_eq (b : BayId) {orders : List PayOrder} {y : Bay} {order : Option PayOrder}
    (h : servedOrder orders y = order) :
    bayNotice b orders y = [0x71, byteOf b.val, byteOf y.state.code,
        byteOf (y.flags.seated.toNat + 2 * y.flags.removed.toNat + 4 * y.flags.ready.toNat + 8 * y.flags.fault.toNat
          + 16 * y.flags.orderDone.toNat + 32 * y.flags.orderInterrupted.toNat + 64 * y.flags.strayUnit.toNat),
        byteOf (y.enable.toNat + 2 * (y.kind.map BayKind.code).getD 0 + 8 * y.lastFault.isSome.toNat + 16 * order.isSome.toNat)]
      ++ optBytes faultNoticeBytes y.lastFault ++ optBytes servingBytes order ++ le2 y.stray := by
  have present (n : Nat) (x z : Bool) : n + 8 * (x.toNat + 2 * z.toNat) = n + 8 * x.toNat + 16 * z.toNat := by omega
  simp only [bayNotice, h, presence, bitsByte_seven, bitsByte_two, present, b1, List.cons_append, List.nil_append,
    List.append_assoc]

theorem queueNotice_eq (q : PayQueue) :
    queueNotice q = [0x72, byteOf (q.flags.orderAdded.toNat + 2 * q.flags.orderDone.toNat + 4 * q.flags.orderReturned.toNat
        + 8 * q.flags.orderCancelled.toNat + 16 * q.flags.pressureHigh.toNat + 32 * q.flags.pressureNormal.toNat),
      byteOf q.orders.length, byteOf q.commitments, byteOf q.pressure.code] := by
  simp only [queueNotice, presence, bitsByte_six, b1, List.cons_append, List.nil_append]

theorem partNotice_eq (p : PartUnit) :
    partNotice p = [0x73, byteOf p.state.code,
      byteOf (p.flags.started.toNat + 2 * p.flags.saveDone.toNat + 4 * p.flags.saveFailed.toNat)] := by
  simp only [partNotice, presence, bitsByte_three, b1, List.cons_append, List.nil_append]

/-! ### The choice (R165, R166) -/

section

variable {s : State}

theorem State.transmit_of_sending (h : s.port.sending ≠ .idle) : s.transmit = s := by
  unfold State.transmit
  split
  next idle => exact absurd idle h
  · rfl

theorem State.transmit_of_reply {r : Reply} (idle : s.port.sending = .idle) (slot : s.port.slot = some r) :
    s.transmit = s.beginReply r := by
  simp only [State.transmit, idle, slot]

theorem State.transmit_of_notice {x : Source} {xs : List Source} (idle : s.port.sending = .idle) (slot : s.port.slot = none)
    (set : s.port.attention = x :: xs) : s.transmit = s.beginNotice x := by
  simp only [State.transmit, idle, slot, set]

theorem State.transmit_of_nothing (idle : s.port.sending = .idle) (slot : s.port.slot = none)
    (set : s.port.attention = []) : s.transmit = s := by
  simp only [State.transmit, idle, slot, set]

/-- The transmitter chooses once: what it chose goes on. -/
theorem State.transmit_transmit (s : State) : s.transmit.transmit = s.transmit := by
  by_cases idle : s.port.sending = .idle
  · cases slot : s.port.slot with
    | some r =>
      rw [State.transmit_of_reply idle slot]
      exact State.transmit_of_sending nofun
    | none =>
      cases set : s.port.attention with
      | nil => rw [State.transmit_of_nothing idle slot set, State.transmit_of_nothing idle slot set]
      | cons x xs =>
        rw [State.transmit_of_notice idle slot set]
        exact State.transmit_of_sending nofun
  · rw [State.transmit_of_sending idle, State.transmit_of_sending idle]

theorem State.transmit_beginNotice (x : Source) (s : State) : (s.beginNotice x).transmit = s.beginNotice x :=
  State.transmit_of_sending nofun

theorem Port.flagsByte_eq (p : Port) :
    p.flagsByte = byteOf ((if p.attention = [] then 0 else 1) + (if p.overrun = true then 2 else 0)) := by
  rw [Port.flagsByte, bitsByte_two]
  cases p.attention <;> cases p.overrun <;> rfl

theorem filter_ne_cons {x : Source} {xs : List Source} (h : x ∉ xs) : ((x :: xs).filter fun y => y ≠ x) = xs := by
  have others : (xs.filter fun y => y ≠ x) = xs :=
    List.filter_eq_self.2 fun y hy => decide_eq_true fun same => h (same ▸ hy)
  rw [List.filter_cons_of_neg (by simp), others]

end

/-- Settles O8: the four branches of the choice, and the layout of each notice. -/
theorem transmitterChooses : Obligations.TransmitterChooses := by
  intro s
  refine ⟨State.transmit_of_sending, fun idle r slot => ?_, State.transmit_of_nothing, fun x xs idle slot set once => ?_,
    fun i => ?_, fun b order serves => ?_, queueNotice_eq _, partNotice_eq _⟩
  · rw [State.transmit_of_reply idle slot, State.beginReply, Port.flagsByte_eq]
  · intro noticed
    have begins (u : State) (cleared : s.clearSource x = u) (port : u.port = s.port) : noticed u := by
      show s.transmit = _
      rw [State.transmit_of_notice idle slot set, State.beginNotice, cleared, port]
      simp only [set, filter_ne_cons once]
    refine ⟨?_, ?_, ?_, ?_⟩
    · rintro i rfl; exact begins _ rfl rfl
    · rintro b rfl; exact begins _ rfl rfl
    · rintro rfl; exact begins _ rfl rfl
    · rintro rfl; exact begins _ rfl rfl
  · intro l
    have layout := laneNotice_eq i l
    rw [laneFlagBits_eq] at layout
    rw [show s.noticeBody (.lane i) = laneNotice i l from rfl, layout]
    cases l.docket <;> cases l.lastRefuse <;> cases l.lastSettled <;> rfl
  · intro y
    have layout := bayNotice_eq b (servedOrder_of_serves serves)
    rw [show s.noticeBody (.bay b) = bayNotice b s.queue.orders y from rfl, layout]
    have kind : (y.kind.map BayKind.code).getD 0
        = match y.kind with | none => 0 | some .cash => 1 | some .voucher => 2 | some .unsupported => 3 := by
      split <;> simp_all [BayKind.code]
    have fault : optBytes faultNoticeBytes y.lastFault = match y.lastFault with
        | some (.printFailed code) => [6, code] | some c => [byteOf c.code, 0] | none => [] := by
      cases y.lastFault with
      | none => rfl
      | some c => cases c <;> rfl
    rw [kind, fault]
    cases order <;> rfl

/-! ### The end of a frame (R164, R166, R183) -/

/-- Whatever the dispatcher makes of a frame, a reply takes the slot. -/
theorem State.dispatchFrame_slot (f : Frame) (s : State) : ∃ r, (s.dispatchFrame f).port.slot = some r := by
  unfold State.dispatchFrame
  simp only
  split
  · split
    · exact ⟨_, rfl⟩
    · exact ⟨_, rfl⟩
    · unfold State.dispatchRequest
      split <;> exact ⟨_, rfl⟩
  · exact ⟨_, rfl⟩

theorem State.dispatchWaiting_none {s : State} (h : s.port.waiting = none) : s.dispatchWaiting = s := by
  simp only [State.dispatchWaiting, h]

theorem State.transmitAfterReply_notice {s : State} {x : Source} {xs : List Source} (set : s.port.attention = x :: xs) :
    s.transmitAfterReply = s.beginNotice x := by
  simp only [State.transmitAfterReply, set]

theorem State.transmitAfterReply_reply {s : State} (set : s.port.attention = []) : s.transmitAfterReply = s.transmit := by
  simp only [State.transmitAfterReply, set]

/-- The state after a reply's last byte: no frame is being sent and the slot is free (R164). -/
def State.replyDone (s : State) : State := { s with port := { s.port with sending := .idle, slot := none } }

/-- After a reply that was no PART_RESET's: the slot is free, a waiting frame is dispatched, and the transmitter chooses. -/
theorem State.frameEnds_reply {s : State} {bs : List Byte} (reply : s.port.sending = .reply bs)
    (stays : s.port.resetPending = false) :
    s.frameEnds = s.replyDone.dispatchWaiting.transmitAfterReply := by
  simp only [State.frameEnds, reply]
  rw [State.replySent, stays, if_neg Bool.false_ne_true]
  rfl

/-- Settles O9. -/
theorem frameSentContinues : Obligations.FrameSentContinues := by
  intro s
  have ended {u : State} (h : s.frameEnds = u) : exec .frameSent s = .next u.transmit := by
    show finish s.frameEnds = _
    rw [h]
    rfl
  refine ⟨fun bs notice => ended (by simp only [State.frameEnds, notice]), fun bs x xs reply stays none_ set => ?_,
    fun bs reply stays none_ set => ?_, fun bs f reply stays waits => ?_, fun bs reply reset => ?_,
    fun idle => ended (by simp only [State.frameEnds, idle])⟩
  · rw [ended (State.frameEnds_reply reply stays), State.dispatchWaiting_none (s := s.replyDone) none_,
      State.transmitAfterReply_notice (s := s.replyDone) set, State.transmit_beginNotice]
    rfl
  · rw [ended (State.frameEnds_reply reply stays), State.dispatchWaiting_none (s := s.replyDone) none_,
      State.transmitAfterReply_reply (s := s.replyDone) set, State.transmit_transmit,
      State.transmit_of_nothing (s := s.replyDone) rfl rfl set]
    rfl
  · intro dispatched
    have taken : s.replyDone.dispatchWaiting = dispatched := by
      simp only [State.replyDone, State.dispatchWaiting, waits]
      rfl
    rw [ended (State.frameEnds_reply reply stays), taken]
    refine ⟨fun x xs set => ?_, fun set => ⟨?_, State.dispatchFrame_slot f _⟩⟩
    · rw [State.transmitAfterReply_notice set, State.transmit_beginNotice]
    · rw [State.transmitAfterReply_reply set, State.transmit_transmit]
  · rw [ended (u := s.resetPart) (by simp only [State.frameEnds, reply, State.replySent, reset, if_true])]
    rw [State.transmit_of_nothing rfl rfl rfl]

end Sys2Proof.Machine
end

section
/-! PROOF. Reset, the settings store and the yard day: what RESET_N, STORE_READ_DONE, CONFIG_SAVE, SAVE_COMPLETE, DAY_OPEN,
DAY_CLOSE and PART_RESET leave (R159, R171, R177 to R179, R182, R183). -/

namespace Sys2Proof.Machine

/-! ### A request command with the port free (R164, R165) -/

/-- The state its block leaves, its reply, and the transmitter's choice are the whole effect of a request command. -/
theorem exec_of_decided {c : Instr} {r : Request} {s t : State} {st : Status} {payload : List Byte} (request : c.request? = some r)
    (free : s.free) (good : Request.lengthGood r = true) (taken : s.part.state.takes r = true)
    (decided : decideRequest r s.heard = (t, ⟨st, payload⟩)) : exec c s = .next (t.answered r st payload).transmit :=
  (exec_of_request s request).trans (finish_request_of_decided free good taken decided)

/-! ### Reset (R183) -/

theorem State.lane_resetPart (s : State) (i : LaneId) : s.resetPart.lane i = (s.lane i).reset (s.presentHome i) := by
  simp [State.resetPart, State.lane]

theorem State.bay_resetPart (s : State) (b : BayId) :
    s.resetPart.bay b = (s.bay b).reset s.part.cutSave.loadedSettings.autopower[b] := by
  simp [State.resetPart, State.bay]

theorem State.account_resetPart (s : State) (a : Nat) : s.resetPart.account a = none := by
  simp only [State.account, State.resetPart, Vector.getElem?_replicate]
  split <;> rfl

theorem kindOfPins_eq (kind1 kind2 : Bool) :
    kindOfPins kind1 kind2 = if kind2 = true then .unsupported else if kind1 = true then .voucher else .cash := by
  cases kind1 <;> cases kind2 <;> rfl

/-- The state of a bay after reset follows its contacts and the kind of the module seated (R159). -/
theorem Bay.state_reset (enable : Bool) (y : Bay) : (y.reset enable).state =
    if y.seat1.pin = true ∧ y.seat2.pin = true then
      (if kindOfPins y.kind1.pin y.kind2.pin = .unsupported then .unsupported else .off)
    else if y.seat1.pin = true ∨ y.seat2.pin = true then .misseated else .vacant := by
  simp only [Bay.reset]
  cases y.seat1.pin <;> cases y.seat2.pin <;> rfl

theorem Bay.kind_reset (enable : Bool) (y : Bay) : (y.reset enable).kind =
    if y.seat1.pin = true ∧ y.seat2.pin = true then some (kindOfPins y.kind1.pin y.kind2.pin) else none := by
  simp only [Bay.reset]
  cases y.seat1.pin <;> cases y.seat2.pin <;> rfl

/-- The transmitter's choice touches no setting. -/
theorem State.settings_transmit (s : State) : s.transmit.settings = s.settings := by
  unfold State.transmit
  split
  · split
    · rfl
    · split
      next x _ _ => cases x <;> rfl
      · rfl
  · rfl

/-- What the load after a reset will read is what the store holds, a save cut off included. -/
theorem PartUnit.loadedSettings_reset (p : PartUnit) : p.reset.loadedSettings = p.cutSave.loadedSettings := rfl

theorem PartUnit.areas_reset_of_idle {p : PartUnit} (idle : p.save = none) :
    p.reset.area1 = p.area1 ∧ p.reset.area2 = p.area2 := by
  simp only [PartUnit.reset, PartUnit.cutSave, idle, and_self]

theorem PartUnit.area_setArea (p : PartUnit) (x y : AreaId) (a : StoreArea) :
    (p.setArea x a).area y = if y = x then a else p.area y := by
  cases x <;> cases y <;> rfl

/-- A save that a reset cuts off leaves the area it was writing invalid, and the other as it was (R182). -/
theorem PartUnit.area_reset_of_saving {p : PartUnit} {v : Save} (saving : p.save = some v) (x : AreaId) :
    p.reset.area x = if x = v.target then { v.image with checkGood := false } else p.area x := by
  rw [← PartUnit.area_setArea]
  simp only [PartUnit.reset, PartUnit.cutSave, saving]
  cases x <;> rfl

/-- The enable a reset gives a bay is the setting that the store read after it loads (R159, log entry 23). -/
theorem State.enable_resetPart {s u : State} {b : BayId} (h : exec .storeReadDone s.resetPart = .next u) :
    (s.resetPart.bay b).enable = u.settings.autopower[b] := by
  have read : exec .storeReadDone s.resetPart = .next s.resetPart.finishStoreRead.transmit := rfl
  have up (b : BayId) (t : State) : (t.autoPowerUp b).settings = t.settings := by unfold State.autoPowerUp; split <;> rfl
  have loaded : s.resetPart.finishStoreRead.settings = s.part.reset.loadedSettings := by
    rw [State.finishStoreRead, up, up]
    rfl
  cases read.symm.trans h
  rw [State.settings_transmit, loaded, PartUnit.loadedSettings_reset, State.bay_resetPart]
  rfl

/-- Settles O11: block by block, what `State.resetPart` makes of it; nothing is left for the transmitter to send. -/
theorem resetTakesEveryBlock : Obligations.ResetTakesEveryBlock := by
  intro s
  have reset : exec .resetN s = .next s.resetPart := by
    show finish s.resetPart = _
    rw [finish, State.transmit_of_nothing rfl rfl rfl]
  refine ⟨s.resetPart, reset, rfl, rfl, s.lane_resetPart, rfl, rfl, s.account_resetPart, rfl, rfl, rfl, rfl, rfl, rfl, rfl, rfl, rfl,
    s.part.reset_save, rfl, PartUnit.areas_reset_of_idle, fun v saving => ⟨?_, fun x other => ?_⟩, fun b u => State.enable_resetPart,
    fun b => ?_⟩
  · show (s.part.reset.area v.target).checkGood = false
    rw [PartUnit.area_reset_of_saving saving, if_pos rfl]
  · show s.part.reset.area x = _
    rw [PartUnit.area_reset_of_saving saving, if_neg other]
  · intro y kind both
    have state := y.state_reset s.part.cutSave.loadedSettings.autopower[b]
    have latched := y.kind_reset s.part.cutSave.loadedSettings.autopower[b]
    rw [kindOfPins_eq] at state latched
    rw [State.bay_resetPart]
    show y.reset _ = _
    rw [← state, ← latched]
    rfl

/-! ### The store read (R177) -/

theorem State.bay_autoPowerUp (b c : BayId) (s : State) : (s.autoPowerUp b).bay c =
    if b = c ∧ (s.bay c).state = .off ∧ (s.bay c).enable = true then
      { s.bay c with state := .powering, powerTimer := some (s.tick + 800) } else s.bay c := by
  unfold State.autoPowerUp
  by_cases same : b = c
  · subst same
    simp only [true_and]
    split
    · exact State.bay_modBay_self _ _ _
    · rfl
  · split <;> rw [if_neg fun h => same h.1]
    exact State.bay_modBay_ne _ same _

/-- The state a store read leaves before the bays power up. -/
def State.storeLoaded (s : State) : State :=
  State.raisePart (fun f => { f with started := true }) { s with
    types := s.part.loadedTypes
    settings := s.part.loadedSettings
    part := { s.part with state := .closed, storeValid := s.part.selected.isSome, current := s.part.selected } }

/-- Powering up changes the bays alone. -/
theorem State.finishStoreRead_eq (s : State) :
    s.finishStoreRead = { s.storeLoaded with bays := s.finishStoreRead.bays } := by
  have up (b : BayId) (t : State) : ∃ bays, t.autoPowerUp b = { t with bays := bays } := by
    unfold State.autoPowerUp
    split
    · exact ⟨_, rfl⟩
    · exact ⟨t.bays, rfl⟩
  obtain ⟨first, h0⟩ := up 0 s.storeLoaded
  obtain ⟨both, h1⟩ := up 1 (s.storeLoaded.autoPowerUp 0)
  have whole : s.finishStoreRead = { s.storeLoaded with bays := both } := by
    rw [h0] at h1
    exact (congrArg (State.autoPowerUp 1) h0).trans h1
  rw [whole]

theorem State.bay_finishStoreRead (s : State) (b : BayId) : s.finishStoreRead.bay b =
    if (s.bay b).state = .off ∧ (s.bay b).enable = true then
      { s.bay b with state := .powering, powerTimer := some (s.tick + 800) } else s.bay b := by
  show ((s.storeLoaded.autoPowerUp 0).autoPowerUp 1).bay b = _
  have tick : (s.storeLoaded.autoPowerUp 0).tick = s.tick := by unfold State.autoPowerUp; split <;> rfl
  have bays : ∀ b : BayId, b = 0 ∨ b = 1 := by decide
  rw [State.bay_autoPowerUp, tick]
  obtain rfl | rfl := bays b
  · rw [if_neg fun h => absurd h.1 (by decide), State.bay_autoPowerUp]
    exact if_congr (and_iff_right rfl) rfl rfl
  · have other : (s.storeLoaded.autoPowerUp 0).bay 1 = s.bay 1 := by
      rw [State.bay_autoPowerUp, if_neg fun h => absurd h.1 (by decide)]
      rfl
    rw [other]
    exact if_congr (and_iff_right rfl) rfl rfl

theorem newerArea_eq_second_iff (g1 g2 : Byte) :
    newerArea g1 g2 = .second ↔ g2 = g1 + 1 ∨ (g1 ≠ g2 + 1 ∧ g1.toNat < g2.toNat) := by
  unfold newerArea
  have opposite : g1 = g2 + 1 → g2 ≠ g1 + 1 := by rintro rfl h; bv_omega
  split
  next one => exact ⟨nofun, fun h => (h.elim (opposite one) fun two => two.1 one).elim⟩
  · split
    next two => exact ⟨fun _ => .inl two, fun _ => rfl⟩
    next one two =>
      split
      next higher => exact ⟨fun _ => .inr ⟨one, higher⟩, fun _ => rfl⟩
      next lower => exact ⟨nofun, fun h => (h.elim two fun above => lower above.2).elim⟩

theorem joinSource_mem (x : Source) (set : List Source) : x ∈ joinSource x set := by
  unfold joinSource
  split <;> simp_all

/-- Settles O12: R177's table row by row on the state before the bays power up. -/
theorem storeReadLoadsTheImage : Obligations.StoreReadLoadsTheImage := by
  intro s starting
  have eq := s.finishStoreRead_eq
  have types : s.finishStoreRead.types = s.part.loadedTypes := by rw [eq]; rfl
  have settings : s.finishStoreRead.settings = s.part.loadedSettings := by rw [eq]; rfl
  have valid : s.finishStoreRead.part.storeValid = s.part.selected.isSome := by rw [eq]; rfl
  have current : s.finishStoreRead.part.current = s.part.selected := by rw [eq]; rfl
  have chosen {x : AreaId} (h : s.part.selected = some x) : s.finishStoreRead.types = (s.part.area x).types
      ∧ s.finishStoreRead.settings = (s.part.area x).settings ∧ s.finishStoreRead.part.storeValid = true
      ∧ s.finishStoreRead.part.current = some x := by
    rw [types, settings, valid, current, PartUnit.loadedTypes, PartUnit.loadedSettings, h]
    exact ⟨rfl, rfl, rfl, rfl⟩
  refine ⟨s.finishStoreRead, ?_, by rw [eq]; rfl, by rw [eq]; rfl, by rw [eq]; exact joinSource_mem _ _, fun bad1 bad2 => ?_,
    fun good1 bad2 => ?_, fun bad1 good2 => ?_, fun good1 good2 => ?_, s.bay_finishStoreRead, by rw [eq]; rfl, by rw [eq]; rfl,
    by rw [eq]; rfl, by rw [eq]; rfl, by rw [eq]; rfl⟩
  · show finish (if s.part.state = .starting then s.finishStoreRead else s) = _
    rw [if_pos starting]
    rfl
  · have none_ : s.part.selected = none := by simp only [PartUnit.selected, bad1, bad2]
    rw [types, settings, valid, current, PartUnit.loadedTypes, PartUnit.loadedSettings, none_]
    exact ⟨rfl, rfl, rfl, rfl⟩
  · exact chosen (x := .first) (by simp only [PartUnit.selected, good1, bad2])
  · exact chosen (x := .second) (by simp only [PartUnit.selected, bad1, good2])
  · intro second
    have both : s.part.selected = some (newerArea s.part.area1.generation s.part.area2.generation) := by
      simp only [PartUnit.selected, good1, good2]
    have newer_iff := newerArea_eq_second_iff s.part.area1.generation s.part.area2.generation
    obtain ⟨types, settings, valid, current⟩ := chosen both
    refine ⟨valid, fun newer => ?_, fun older => ?_⟩
    · rw [newer_iff.2 newer] at types settings current
      exact ⟨types, settings, current⟩
    · have first : newerArea s.part.area1.generation s.part.area2.generation = .first := by
        cases h : newerArea s.part.area1.generation s.part.area2.generation
        · rfl
        · exact absurd (newer_iff.1 h) older
      rw [first] at types settings current
      exact ⟨types, settings, current⟩

/-! ### Saving (R182) -/

/-- An area written and what else a save's end changes, as one change of the part. -/
theorem PartUnit.setArea_with (p : PartUnit) (x : AreaId) (a : StoreArea) (current : Option AreaId) (flags : PartFlags) :
    { p.setArea x a with save := none, current := current, flags := flags } = { p with
      area1 := if x = .first then a else p.area1
      area2 := if x = .second then a else p.area2
      save := none, current := current, flags := flags } := by
  cases x <;> rfl

theorem PartUnit.setArea_current (p : PartUnit) (x : AreaId) (a : StoreArea) :
    (p.setArea x a).current = p.current ∧ (p.setArea x a).flags = p.flags := by
  cases x <;> exact ⟨rfl, rfl⟩

theorem PartUnit.saveTarget_eq (p : PartUnit) : p.saveTarget = if p.current = some .first then .second else .first := by
  unfold PartUnit.saveTarget
  split <;> simp_all

theorem PartUnit.saveGeneration_eq (p : PartUnit) : p.saveGeneration = match p.current with
    | some .first => p.area1.generation + 1
    | some .second => p.area2.generation + 1
    | none => 0 := by
  unfold PartUnit.saveGeneration
  split
  next x current => cases x <;> simp [current, PartUnit.area]
  next current => simp [current]

/-- Settles O13. -/
theorem savingWritesTheOtherArea : Obligations.SavingWritesTheOtherArea := by
  intro s
  refine ⟨fun free started idle => ?_, fun free started saving => ?_, fun v saving => ?_, fun v saving => ?_, fun good idle => ?_⟩
  · refine exec_of_decided rfl free rfl (PartState.takes_of started nofun nofun nofun nofun) ?_
    show decideConfigSave s.heard = _
    rw [decideConfigSave, State.imageToSave, PartUnit.saveTarget_eq, PartUnit.saveGeneration_eq, State.heard_part, idle]
    rfl
  · refine exec_of_decided rfl free rfl (PartState.takes_of started nofun nofun nofun nofun) ?_
    show decideConfigSave s.heard = _
    rw [decideConfigSave, if_pos (by rw [State.heard_part]; exact Option.isSome_iff_ne_none.2 saving)]
    rfl
  · show finish (s.finishSave true) = _
    obtain ⟨-, flags⟩ := s.part.setArea_current v.target v.image
    simp only [State.finishSave, saving, if_true, State.raisePart, flags]
    rw [PartUnit.setArea_with]
    rfl
  · show finish (s.finishSave false) = _
    obtain ⟨current, flags⟩ := s.part.setArea_current v.target { v.image with checkGood := false }
    have written := s.part.setArea_with v.target { v.image with checkGood := false } s.part.current
      { s.part.flags with saveFailed := true }
    rw [← current] at written
    simp only [State.finishSave, saving, Bool.false_eq_true, if_false, State.raisePart, flags]
    rw [written, current]
    rfl
  · show finish (s.finishSave good) = _
    rw [State.finishSave, idle]
    rfl

/-! ### The yard day (R178, R179, R183) -/

theorem State.itemsPending_iff (s : State) :
    s.itemsPending = true ↔ (∃ i, (s.lane i).docket ≠ none) ∨ s.queue.orders ≠ [] := by
  simp only [State.itemsPending, Bool.or_eq_true, decide_eq_true_eq, ne_eq, State.dockets_eq_nil, not_forall]

theorem State.itemsPending_heard (s : State) : s.heard.itemsPending = s.itemsPending := rfl

theorem State.not_itemsPending {s : State} (dockets : ∀ i, (s.lane i).docket = none) (orders : s.queue.orders = []) :
    s.itemsPending = false := by
  rw [← Bool.not_eq_true, State.itemsPending_iff]
  simp [dockets, orders]

/-- Settles O14. -/
theorem yardDayAndPartReset : Obligations.YardDayAndPartReset := by
  refine ⟨fun s free => ⟨fun closed day nonzero => ?_, fun closed => ?_, fun opened dockets orders => ?_, fun opened pending => ?_⟩,
    fun s free started => ⟨fun pending => ?_, fun dockets orders saving => ?_, fun dockets orders idle => ?_⟩⟩
  · refine exec_of_decided rfl free rfl (by rw [closed]; rfl) ?_
    show decideDayOpen day s.heard = _
    rw [decideDayOpen, if_neg (c := s.heard.part.state ≠ .closed) (not_not.2 closed), if_neg nonzero]
    rfl
  · refine exec_of_decided rfl free rfl (by rw [closed]; rfl) ?_
    show decideDayOpen 0 s.heard = _
    rw [decideDayOpen, if_neg (c := s.heard.part.state ≠ .closed) (not_not.2 closed), if_pos rfl]
    rfl
  · refine exec_of_decided rfl free rfl (by rw [opened]; rfl) ?_
    show decideDayClose s.heard = _
    rw [decideDayClose, if_neg (c := s.heard.part.state ≠ .opened) (not_not.2 opened), State.itemsPending_heard,
      State.not_itemsPending dockets orders]
    rfl
  · refine exec_of_decided rfl free rfl (by rw [opened]; rfl) ?_
    show decideDayClose s.heard = _
    rw [decideDayClose, if_neg (c := s.heard.part.state ≠ .opened) (not_not.2 opened), State.itemsPending_heard,
      s.itemsPending_iff.2 pending]
    rfl
  · refine exec_of_decided rfl free rfl (PartState.takes_of started nofun nofun nofun nofun) ?_
    show decidePartReset s.heard = _
    rw [decidePartReset, State.itemsPending_heard, s.itemsPending_iff.2 pending]
    rfl
  · refine exec_of_decided rfl free rfl (PartState.takes_of started nofun nofun nofun nofun) ?_
    show decidePartReset s.heard = _
    rw [decidePartReset, State.itemsPending_heard, State.not_itemsPending dockets orders, State.heard_part,
      Option.isSome_iff_ne_none.2 saving]
    rfl
  · refine exec_of_decided rfl free rfl (PartState.takes_of started nofun nofun nofun nofun) ?_
    show decidePartReset s.heard = _
    rw [decidePartReset, State.itemsPending_heard, State.not_itemsPending dockets orders, State.heard_part, idle]
    rfl

end Sys2Proof.Machine
end

section
/-! PROOF. CONFIG_WRITE: its refusals in order with their positions, what an accepted one writes (R181), and that it reads
every item CONFIG_READ sends (R180). -/

namespace Sys2Proof.Machine

/-! ### Step 1: the first bad item (R181) -/

/-- What an item and its field are named by. -/
def itemKey (c : ConfigItem) : Nat × Nat := (c.code, c.index)

/-- An item bad after items with the keys `seen` and the items `us`: bad by itself, or naming a field again. -/
def BadItem (seen : List (Nat × Nat)) (us : List ConfigItem) (c : ConfigItem) : Prop :=
  settingOf c = none ∨ itemKey c ∈ seen ∨ ∃ y ∈ us, itemKey y = itemKey c

theorem badItem_cons (seen : List (Nat × Nat)) (k : Nat) (c : ConfigItem) (cs : List ConfigItem) :
    (BadItem seen [] c → badItem seen k (c :: cs) = some k)
      ∧ (¬ BadItem seen [] c → badItem seen k (c :: cs) = badItem (itemKey c :: seen) (k + 1) cs) := by
  have test : ((settingOf c).isNone || decide ((c.code, c.index) ∈ seen)) = true ↔ BadItem seen [] c := by
    simp [BadItem, itemKey]
  exact ⟨fun bad => if_pos (test.2 bad), fun good => if_neg (mt test.1 good)⟩

theorem badItem_cons_seen (seen : List (Nat × Nat)) (a : ConfigItem) (us : List ConfigItem) (c : ConfigItem) :
    BadItem (itemKey a :: seen) us c ↔ BadItem seen (a :: us) c := by
  have turned : itemKey c = itemKey a ↔ itemKey a = itemKey c := eq_comm
  simp only [BadItem, List.mem_cons, exists_eq_or_imp, turned]
  tauto

/-- The position found is that of the first bad item. -/
theorem badItem_at {seen : List (Nat × Nat)} {k : Nat} {xs ys : List ConfigItem} {x : ConfigItem} (bad : BadItem seen xs x)
    (first : ∀ us u vs, xs = us ++ u :: vs → ¬ BadItem seen us u) : badItem seen k (xs ++ x :: ys) = some (k + xs.length) := by
  induction xs generalizing seen k with
  | nil => exact (badItem_cons seen k x ys).1 bad
  | cons a as ih =>
    rw [List.cons_append, (badItem_cons seen k a _).2 (first [] a as rfl),
      ih ((badItem_cons_seen seen a as x).2 bad) fun us u vs h =>
        mt (badItem_cons_seen seen a us u).1 (first (a :: us) u vs (by rw [h]; rfl))]
    simp only [List.length_cons]
    congr 1
    omega

/-- Items that name each field once, each with a value in its range, have no bad one among them. -/
theorem badItem_none {seen : List (Nat × Nat)} {k : Nat} {items : List ConfigItem} (good : ∀ c ∈ items, settingOf c ≠ none)
    (fresh : ∀ c ∈ items, itemKey c ∉ seen) (once : (items.map itemKey).Nodup) : badItem seen k items = none := by
  induction items generalizing seen k with
  | nil => rfl
  | cons a as ih =>
    obtain ⟨first, rest⟩ := List.nodup_cons.1 once
    have fine : ¬ BadItem seen [] a := by
      rintro (bad | again | ⟨y, hy, -⟩)
      · exact good a (by simp) bad
      · exact fresh a (by simp) again
      · cases hy
    rw [(badItem_cons seen k a as).2 fine]
    refine ih (fun c hc => good c (by simp [hc])) (fun c hc => ?_) rest
    rw [List.mem_cons, not_or]
    exact ⟨fun same => first (same ▸ List.mem_map_of_mem hc), fresh c (by simp [hc])⟩

theorem settingOf_ne_none {items : List ConfigItem} {xs : List Setting} (read : items.map settingOf = xs.map some) :
    ∀ c ∈ items, settingOf c ≠ none := by
  intro c hc none_
  have : none ∈ xs.map some := by rw [← read, ← none_]; exact List.mem_map_of_mem hc
  simp at this

theorem filterMap_settingOf {items : List ConfigItem} {xs : List Setting} (read : items.map settingOf = xs.map some) :
    items.filterMap settingOf = xs := by
  have : (items.map settingOf).filterMap id = xs := by rw [read, List.filterMap_map]; simp
  rw [← this, List.filterMap_map]
  rfl

/-! ### Steps 2 and 3: the marks and the guards (R181) -/

theorem lastMark_at {ys zs : List Setting} {x : Setting} (mark : x.isMark = true) (last : ∀ z ∈ zs, z.isMark = false) :
    lastMark (ys ++ x :: zs) = ys.length := by
  have found : (ys ++ x :: zs).reverse.findIdx? Setting.isMark = some zs.length := by
    rw [List.reverse_append, List.reverse_cons, List.append_assoc, List.findIdx?_append,
      List.findIdx?_eq_none_iff.2 (by simpa using last)]
    simp [List.findIdx?_cons, mark]
  rw [lastMark, found]
  simp only [List.length_append, List.length_cons, Option.getD_some]
  omega

theorem lastMark_singleton (x : Setting) : lastMark [x] = 0 := by
  simp [lastMark]

theorem findIdx?_at {α : Type} {p : α → Bool} {xs ys : List α} {x : α} (before : ∀ q ∈ xs, p q = false) (hx : p x = true) :
    (xs ++ x :: ys).findIdx? p = some xs.length := by
  rw [List.findIdx?_append, List.findIdx?_eq_none_iff.2 before]
  simp [List.findIdx?_cons, hx]

/-- A field a lane that is not OFF guards, or cash business (R52, R134). -/
def State.Guarded (s : State) (x : Setting) : Prop :=
  (∃ i, x.guardedLane = some i ∧ (s.lane i).state ≠ .off)
    ∨ ((∃ v, x = .cashUnit v) ∧ ((∃ o ∈ s.queue.orders, o.method = .cash) ∨ ∃ d ∈ s.dockets, d.method = .cash))

theorem State.guards_iff (s : State) (x : Setting) : s.guards x = true ↔ s.Guarded x := by
  cases x <;> simp [State.guards, State.Guarded, State.cashInUse, Setting.guardedLane]

theorem State.guards_eq_false {s : State} {x : Setting} (h : ¬ s.Guarded x) : s.guards x = false := by
  rw [← Bool.not_eq_true, State.guards_iff]
  exact h

/-! ### The decision, step by step (R181) -/

section

variable {items : List ConfigItem} {xs : List Setting} {s : State}

theorem decideConfigWrite_bad {k : Nat} (bad : badItem [] 0 items = some k) :
    decideConfigWrite items s = refuseAt s .range k := by
  simp only [decideConfigWrite, bad]

variable (read : items.map settingOf = xs.map some) (once : (items.map itemKey).Nodup)

include read once

/-- Past step 1 the fields decide. -/
theorem decideConfigWrite_read : decideConfigWrite items s =
    if (xs.foldl (fun g x => x.apply g) s.settings).highMark ≤ (xs.foldl (fun g x => x.apply g) s.settings).lowMark then
      refuseAt s .range (lastMark xs)
    else match xs.findIdx? s.guards with
      | some k => refuseAt s .inUse k
      | none =>
        if s.part.save.isSome then (s, ⟨.busy, [Config.busyPosition items.length]⟩)
        else answerOk (s.writeSettings xs) [] := by
  have none_ : badItem [] 0 items = none := badItem_none (settingOf_ne_none read) (fun _ _ => List.not_mem_nil) once
  simp only [decideConfigWrite, none_, filterMap_settingOf read] <;> rfl

theorem decideConfigWrite_marks
    (marks : (xs.foldl (fun g x => x.apply g) s.settings).highMark ≤ (xs.foldl (fun g x => x.apply g) s.settings).lowMark) :
    decideConfigWrite items s = refuseAt s .range (lastMark xs) := by
  rw [decideConfigWrite_read read once, if_pos marks]

variable
  (marks : (xs.foldl (fun g x => x.apply g) s.settings).lowMark < (xs.foldl (fun g x => x.apply g) s.settings).highMark)

include marks

theorem decideConfigWrite_guarded {ys zs : List Setting} {x : Setting} (at_ : xs = ys ++ x :: zs) (guarded : s.Guarded x)
    (first : ∀ y ∈ ys, ¬ s.Guarded y) : decideConfigWrite items s = refuseAt s .inUse ys.length := by
  rw [decideConfigWrite_read read once, if_neg (Nat.not_le.2 marks), at_,
    findIdx?_at (fun y hy => State.guards_eq_false (first y hy)) ((s.guards_iff x).2 guarded)]

variable (unguarded : ∀ x ∈ xs, ¬ s.Guarded x)

include unguarded

theorem decideConfigWrite_busy (saving : s.part.save ≠ none) :
    decideConfigWrite items s = (s, ⟨.busy, [Config.busyPosition items.length]⟩) := by
  rw [decideConfigWrite_read read once, if_neg (Nat.not_le.2 marks),
    List.findIdx?_eq_none_iff.2 fun x hx => State.guards_eq_false (unguarded x hx)]
  exact if_pos (Option.isSome_iff_ne_none.2 saving)

theorem decideConfigWrite_accepted (idle : s.part.save = none) :
    decideConfigWrite items s = answerOk (s.writeSettings xs) [] := by
  rw [decideConfigWrite_read read once, if_neg (Nat.not_le.2 marks),
    List.findIdx?_eq_none_iff.2 fun x hx => State.guards_eq_false (unguarded x hx), idle]
  rfl

end

/-! ### What an accepted one writes (R52, R132, R180) -/

/-- No lane's drive mode is written twice. -/
def ModesOnce (xs : List Setting) : Prop := xs.Pairwise fun x y => ∀ i m m', x = .mode i m → y ≠ .mode i m'

theorem key_of_mode {c : ConfigItem} {i : LaneId} {m : DriveMode} (h : settingOf c = some (.mode i m)) :
    itemKey c = (0x07, i.val) := by
  unfold settingOf at h
  split at h
  case h_7 code =>
    simp only [Option.bind_eq_bind, Option.bind_eq_some_iff, Option.pure_def, Option.some.injEq, Setting.mode.injEq] at h
    obtain ⟨j, lane, -, -, rfl, rfl⟩ := h
    unfold laneOf at lane
    split at lane
    · cases lane
      exact Prod.ext code rfl
    · cases lane
  all_goals simp [Option.bind_eq_some_iff] at h

theorem modesOnce_of_read {items : List ConfigItem} {xs : List Setting} (read : items.map settingOf = xs.map some)
    (once : (items.map itemKey).Nodup) : ModesOnce xs := by
  rw [ModesOnce, ← filterMap_settingOf read, List.pairwise_filterMap]
  refine (List.pairwise_map.1 once).imp fun {a b} differ x hx y hy i m m' hm hm' => differ ?_
  rw [key_of_mode (hx.trans (congrArg some hm)), key_of_mode (hy.trans (congrArg some hm'))]

/-- The lane `i` of a state with its phase index within the pattern of mode `m`. -/
def Lane.rephased (m : DriveMode) (l : Lane) : Lane :=
  { l with diverter := { l.diverter with phaseIndex := l.diverter.phaseIndex % m.patternLength } }

theorem Setting.rephase_frame (x : Setting) (s : State) : ∃ lanes, x.rephase s = { s with lanes := lanes } := by
  cases x
  case mode i m => exact ⟨_, rfl⟩
  all_goals exact ⟨s.lanes, rfl⟩

theorem Setting.lane_rephase_mode (i : LaneId) (m : DriveMode) (s : State) :
    ((Setting.mode i m).rephase s).lane i = (s.lane i).rephased m :=
  State.lane_modDiverter_self s i _

theorem Setting.lane_rephase_other {x : Setting} {i : LaneId} (h : ∀ m, x ≠ .mode i m) (s : State) :
    (x.rephase s).lane i = s.lane i := by
  cases x
  case mode j m =>
    have other : j ≠ i := by rintro rfl; exact h m rfl
    exact State.lane_modLane_ne s other _
  all_goals rfl

theorem lane_foldl_rephase_other {xs : List Setting} {i : LaneId} (h : ∀ m, .mode i m ∉ xs) (s : State) :
    (xs.foldl (fun t x => x.rephase t) s).lane i = s.lane i := by
  induction xs generalizing s with
  | nil => rfl
  | cons x xs ih =>
    rw [List.foldl_cons, ih (fun m hm => h m (by simp [hm])),
      Setting.lane_rephase_other fun m hm => h m (by simp [hm])]

theorem lane_foldl_rephase_mode {xs : List Setting} {i : LaneId} {m : DriveMode} (once : ModesOnce xs) (h : .mode i m ∈ xs)
    (s : State) : (xs.foldl (fun t x => x.rephase t) s).lane i = (s.lane i).rephased m := by
  induction xs generalizing s with
  | nil => cases h
  | cons x xs ih =>
    obtain ⟨first, rest⟩ := List.pairwise_cons.1 once
    rw [List.foldl_cons]
    obtain rfl | later := List.mem_cons.1 h
    · rw [lane_foldl_rephase_other fun m' hm' => first _ hm' i m m' rfl rfl, Setting.lane_rephase_mode]
    · rw [ih rest later, Setting.lane_rephase_other fun m' hm' => first _ later i m' m hm' rfl]

/-- Writing items writes the configuration and rephases the lanes of the drive modes among them; nothing else changes. -/
theorem State.foldl_writeSetting_eq {xs : List Setting} (once : ModesOnce xs) (s : State) :
    ∃ lanes, xs.foldl State.writeSetting s
        = { s with settings := xs.foldl (fun g x => x.apply g) s.settings, lanes := lanes }
      ∧ ∀ i : LaneId, (∀ m, .mode i m ∈ xs → lanes[i] = (s.lane i).rephased m)
        ∧ ((∀ m, .mode i m ∉ xs) → lanes[i] = s.lane i) := by
  have lanesOnly (xs : List Setting) (t : State) : ∃ lanes, xs.foldl (fun t x => x.rephase t) t = { t with lanes := lanes } := by
    induction xs generalizing t with
    | nil => exact ⟨t.lanes, rfl⟩
    | cons x xs ih =>
      obtain ⟨first, hx⟩ := x.rephase_frame t
      obtain ⟨lanes, h⟩ := ih (x.rephase t)
      exact ⟨lanes, by rw [List.foldl_cons, h, hx]⟩
  rw [State.foldl_writeSetting]
  obtain ⟨lanes, h⟩ := lanesOnly xs { s with settings := xs.foldl (fun g (x : Setting) => x.apply g) s.settings }
  have lane (i : LaneId) : lanes[i] = (xs.foldl (fun t (x : Setting) => x.rephase t)
      { s with settings := xs.foldl (fun g (x : Setting) => x.apply g) s.settings }).lane i := by rw [h]; rfl
  refine ⟨lanes, h, fun i => ⟨fun m hm => ?_, fun none_ => ?_⟩⟩
  · rw [lane, lane_foldl_rephase_mode once hm]; rfl
  · rw [lane, lane_foldl_rephase_other none_]; rfl

theorem DriveMode.patternLength_eq (m : DriveMode) : m.patternLength = match m with | .half => 8 | _ => 4 := by
  cases m <;> rfl

/-! ### CONFIG_WRITE whole -/

theorem exec_configWrite {items : List ConfigItem} {s t : State} {st : Status} {payload : List Byte} (free : s.free)
    (started : s.part.state ≠ .starting) (low : 1 ≤ items.length) (high : items.length ≤ 62)
    (decided : decideConfigWrite items s.heard = (t, ⟨st, payload⟩)) :
    exec (.configWrite items) s = .next (t.answered (.configWrite items) st payload).transmit :=
  exec_of_decided rfl free (by simp [Request.lengthGood, itemCountGood, low, high])
    (PartState.takes_of started nofun nofun nofun nofun) decided

theorem writeSettings_singleton (x : Setting) (s : State) : s.writeSettings [x] =
    if x.isMark = true then (s.writeSetting x).evaluatePressure else s.writeSetting x := by
  simp only [State.writeSettings, List.any_cons, List.any_nil, Bool.or_false, List.foldl_cons, List.foldl_nil]

/-- Settles O16: the refusals are the branches of the decision, for one item and for several. -/
theorem configWriteChecksInOrder : Obligations.ConfigWriteChecksInOrder := by
  refine ⟨fun c s free started => ⟨fun unknown => ?unknown, fun x known => ⟨fun marks => ?marks, fun marks guarded => ?guarded,
    fun marks lane cash => ⟨fun saving => ?busy, fun idle mark mode => ?plain, fun idle mark => ?mark, fun i m idle mode => ?mode⟩⟩⟩,
    fun items s free started low high => ?several⟩
  case unknown =>
    exact exec_configWrite free started le_rfl (Nat.le_add_left _ _)
      (decideConfigWrite_bad (badItem_at (xs := []) (.inl unknown) (by simp)))
  case several =>
    intro command r bad
    have wrote {t : State} {st : Status} {payload : List Byte} (decided : decideConfigWrite items s.heard = (t, ⟨st, payload⟩)) :
        exec command s = .next (t.answered r st payload).transmit := exec_configWrite free started low high decided
    have bad_iff (us : List ConfigItem) (u : ConfigItem) : bad us u ↔ BadItem [] us u := by
      simp [bad, BadItem, itemKey]
    refine ⟨fun xs x ys split_ this first => ?_, fun xs read once => ?_⟩
    · have found := badItem_at (k := 0) (ys := ys) ((bad_iff xs x).1 this)
        fun us u vs h => mt (bad_iff us u).2 (first us u vs h)
      rw [← split_, Nat.zero_add] at found
      exact wrote (decideConfigWrite_bad found)
    · intro after guarded
      refine ⟨fun marks ys x zs split_ mark last => ?_, fun marks ys x zs split_ this first => ?_, fun marks unguarded =>
        ⟨fun saving => ⟨_, wrote (decideConfigWrite_busy (s := s.heard) read once marks unguarded saving)⟩, fun idle => ?_⟩⟩
      · have refused := wrote (decideConfigWrite_marks (s := s.heard) read once marks)
        rw [split_, lastMark_at mark last] at refused
        exact refused
      · exact wrote (decideConfigWrite_guarded (s := s.heard) read once marks split_ this first)
      · obtain ⟨lanes, written, lane⟩ := State.foldl_writeSetting_eq (modesOnce_of_read read once) s.heard
        have accepted := wrote (decideConfigWrite_accepted (s := s.heard) read once marks unguarded idle)
        refine ⟨lanes, fun i => ⟨fun m hm => ?_, fun none_ => (lane i).2 none_⟩, ?_⟩
        · have rephased := (lane i).1 m hm
          rw [Lane.rephased, DriveMode.patternLength_eq] at rephased
          exact rephased
        · rw [accepted, State.writeSettings, written]
          congr 3
          exact if_congr List.any_eq_true rfl rfl
  all_goals
    have wrote {t : State} {st : Status} {payload : List Byte} (decided : decideConfigWrite [c] s.heard = (t, ⟨st, payload⟩)) :
        exec (.configWrite [c]) s = .next (t.answered (.configWrite [c]) st payload).transmit :=
      exec_configWrite free started le_rfl (Nat.le_add_left _ _) decided
    have read : [c].map settingOf = [x].map some := congrArg (fun y => [y]) known
    have once : ([c].map itemKey).Nodup := List.nodup_singleton _
  case marks =>
    have refused := wrote (decideConfigWrite_marks (s := s.heard) read once marks)
    rw [lastMark_singleton] at refused
    exact refused
  case guarded =>
    exact wrote (decideConfigWrite_guarded (s := s.heard) read once marks (ys := []) rfl guarded (by simp))
  all_goals
    have unguarded : ∀ y ∈ [x], ¬ s.Guarded y := by
      intro y hy
      obtain rfl := List.mem_singleton.1 hy
      rintro (⟨i, hi, on⟩ | ⟨⟨v, rfl⟩, ⟨o, ho, paid⟩ | ⟨d, hd, paid⟩⟩)
      · exact on (lane i hi)
      · exact (cash v rfl).1 o ho paid
      · exact (cash v rfl).2 d hd paid
  case busy => exact ⟨_, wrote (decideConfigWrite_busy (s := s.heard) read once marks unguarded saving)⟩
  all_goals
    have accepted := wrote (decideConfigWrite_accepted (s := s.heard) read once marks unguarded idle)
    rw [writeSettings_singleton] at accepted
  case plain =>
    rw [mark, if_neg Bool.false_ne_true] at accepted
    rw [accepted]
    cases x
    case mode i m => exact absurd rfl (mode i m)
    all_goals rfl
  case mark =>
    rw [mark, if_pos rfl] at accepted
    rw [accepted]
    cases x
    case mode i m => cases mark
    all_goals rfl
  case mode =>
    subst mode
    exact accepted

/-! ### The items CONFIG_READ sends, written (R180) -/

theorem laneItems_eq (code : Nat) (g : Settings) (f : LaneSettings → Nat) :
    laneItems code g f = (List.finRange 4).map fun i => ⟨code, i.val, f g.lanes[i]⟩ := by
  refine List.ext_getElem (by simp [laneItems]) fun n h _ => ?_
  simp [laneItems]

/-- One field for each lane. -/
def laneFields (f : LaneId → Setting) : List Setting := (List.finRange 4).map f

/-- The fields of a configuration, in the order CONFIG_READ sends them. -/
def Settings.fields (g : Settings) : List Setting :=
  laneFields (fun i => Setting.enable i g.lanes[i].enable) ++ laneFields (fun i => Setting.dAB i g.lanes[i].dAB)
    ++ laneFields (fun i => Setting.dBG i g.lanes[i].dBG) ++ laneFields (fun i => Setting.trim i g.lanes[i].trim)
    ++ laneFields (fun i => Setting.throwSteps i g.lanes[i].throwSteps) ++ laneFields (fun i => Setting.stepPeriod i g.lanes[i].stepPeriod)
    ++ laneFields (fun i => Setting.mode i g.lanes[i].mode)
    ++ [Setting.quietTime g.quietTime, .autoClose g.autoClose, .jamTime g.jamTime, .cashUnit g.cashUnit, .highMark g.highMark,
      .lowMark g.lowMark]
    ++ (List.finRange 2).map fun b => Setting.autopower b g.autopower[b]

/-- A lane's fields within R180's ranges. -/
structure LaneRanged (l : LaneSettings) : Prop where
  dAB : 100 ≤ l.dAB ∧ l.dAB ≤ 2000
  dBG : 100 ≤ l.dBG ∧ l.dBG ≤ 4000
  trim : -63 ≤ l.trim ∧ l.trim ≤ 63
  throwSteps : 4 ≤ l.throwSteps ∧ l.throwSteps ≤ 64
  stepPeriod : 2 ≤ l.stepPeriod ∧ l.stepPeriod ≤ 20

/-- A configuration within R180's ranges. -/
structure Settings.Ranged (g : Settings) : Prop where
  lanes : ∀ i : LaneId, LaneRanged g.lanes[i]
  quietTime : 10 ≤ g.quietTime ∧ g.quietTime ≤ 600
  autoClose : g.autoClose ≤ 60
  jamTime : 2 ≤ g.jamTime ∧ g.jamTime ≤ 60
  cashUnit : 1 ≤ g.cashUnit ∧ g.cashUnit ≤ 10000
  highMark : 2 ≤ g.highMark ∧ g.highMark ≤ 16
  lowMark : g.lowMark < g.highMark

theorem ranged_of {lo hi v : Nat} (h : lo ≤ v ∧ v ≤ hi) : ranged lo hi v = some v := if_pos h

theorem yesNo_toNat (b : Bool) : yesNo b.toNat = some b := by cases b <;> rfl

theorem DriveMode.ofCode_code (m : DriveMode) : DriveMode.ofCode m.code = some m := by cases m <;> rfl

theorem trimValue_trimCode {v : Int} (h : -63 ≤ v ∧ v ≤ 63) : trimValue (trimCode v) = some v := by
  have same : signedValue (trimCode v) = v := by
    rw [signedValue, trimCode, BitVec.ofNat_toNat, BitVec.setWidth_eq, BitVec.toInt_ofInt]
    exact Int.bmod_eq_of_le (by omega) (by omega)
  rw [trimValue, same, if_pos h]

/-- Every item is read as the field it was sent for. -/
theorem Settings.map_settingOf_items {g : Settings} (h : g.Ranged) : g.items.map settingOf = g.fields.map some := by
  have lane (code : Nat) (f : LaneSettings → Nat) (field : LaneId → Setting)
      (read : ∀ i : LaneId, settingOf ⟨code, i.val, f g.lanes[i]⟩ = some (field i)) :
      (laneItems code g f).map settingOf = (laneFields field).map some := by
    rw [laneItems_eq, laneFields, List.map_map, List.map_map]
    exact List.map_congr_left fun i _ => read i
  obtain ⟨lanes, quietTime, autoClose, jamTime, cashUnit, high, marks⟩ := h
  have low : g.lowMark ≤ 15 := by omega
  have bays : (g.autopower.toList.zipIdx.map fun p => (⟨0x20, p.2, p.1.toNat⟩ : ConfigItem)).map settingOf
      = ((List.finRange 2).map fun b => Setting.autopower b g.autopower[b]).map some := by
    refine List.ext_getElem (by simp) fun n h _ => ?_
    have hn : n < 2 := by simpa using h
    have named : bayOf n = some ⟨n, hn⟩ := bayOf_val ⟨n, hn⟩
    simp [settingOf, yesNo_toNat, named]
  have enable := lane 0x01 (fun l => l.enable.toNat) (fun i => .enable i g.lanes[i].enable) fun i => by
    simp [settingOf, yesNo_toNat]
  have dAB := lane 0x02 (·.dAB) (fun i => .dAB i g.lanes[i].dAB) fun i => by
    simp only [settingOf, laneOf_val, ranged_of (lanes i).dAB]
    rfl
  have dBG := lane 0x03 (·.dBG) (fun i => .dBG i g.lanes[i].dBG) fun i => by
    simp only [settingOf, laneOf_val, ranged_of (lanes i).dBG]
    rfl
  have trim := lane 0x04 (fun l => trimCode l.trim) (fun i => .trim i g.lanes[i].trim) fun i => by
    simp only [settingOf, laneOf_val, trimValue_trimCode (lanes i).trim]
    rfl
  have throw := lane 0x05 (·.throwSteps) (fun i => .throwSteps i g.lanes[i].throwSteps) fun i => by
    simp only [settingOf, laneOf_val, ranged_of (lanes i).throwSteps]
    rfl
  have period := lane 0x06 (·.stepPeriod) (fun i => .stepPeriod i g.lanes[i].stepPeriod) fun i => by
    simp only [settingOf, laneOf_val, ranged_of (lanes i).stepPeriod]
    rfl
  have mode := lane 0x07 (fun l => l.mode.code) (fun i => .mode i g.lanes[i].mode) fun i => by
    simp [settingOf, DriveMode.ofCode_code]
  have whole : ([⟨0x10, 0, g.quietTime⟩, ⟨0x11, 0, g.autoClose⟩, ⟨0x12, 0, g.jamTime⟩, ⟨0x13, 0, g.cashUnit⟩,
      ⟨0x14, 0, g.highMark⟩, ⟨0x15, 0, g.lowMark⟩] : List ConfigItem).map settingOf
      = [Setting.quietTime g.quietTime, .autoClose g.autoClose, .jamTime g.jamTime, .cashUnit g.cashUnit, .highMark g.highMark,
        .lowMark g.lowMark].map some := by
    simp [settingOf, partWide, ranged_of quietTime, ranged_of ⟨Nat.zero_le _, autoClose⟩, ranged_of jamTime,
      ranged_of cashUnit, ranged_of high, ranged_of ⟨Nat.zero_le _, low⟩]
  simp only [Settings.items, Settings.fields, List.map_append, enable, dAB, dBG, trim, throw, period, mode, whole, bays]

theorem Settings.nodup_items (g : Settings) : (g.items.map itemKey).Nodup := by
  have keys : g.items.map itemKey = [0x01, 0x02, 0x03, 0x04, 0x05, 0x06, 0x07].flatMap
      (fun code => [(code, 0), (code, 1), (code, 2), (code, 3)])
      ++ [(0x10, 0), (0x11, 0), (0x12, 0), (0x13, 0), (0x14, 0), (0x15, 0), (0x20, 0), (0x20, 1)] := by
    have bays : (g.autopower.toList.zipIdx.map fun p => (⟨0x20, p.2, p.1.toNat⟩ : ConfigItem)).map itemKey
        = [(0x20, 0), (0x20, 1)] := by
      refine List.ext_getElem (by simp) fun n h _ => ?_
      have hn : n < 2 := by simpa using h
      interval_cases n <;> simp [itemKey]
    simp only [Settings.items, laneItems_eq, List.map_append, bays, List.map_map]
    rfl
  rw [keys]
  decide

theorem Settings.length_items (g : Settings) : g.items.length = 36 := by
  simp [Settings.items, laneItems]

/-- What a field of a lane makes of that lane's settings. -/
def Setting.onLane : Setting → LaneSettings → LaneSettings
  | .enable _ v, l => { l with enable := v }
  | .dAB _ v, l => { l with dAB := v }
  | .dBG _ v, l => { l with dBG := v }
  | .trim _ v, l => { l with trim := v }
  | .throwSteps _ v, l => { l with throwSteps := v }
  | .stepPeriod _ v, l => { l with stepPeriod := v }
  | .mode _ v, l => { l with mode := v }
  | _, l => l

/-- One field written for each lane is one change of all the lanes. -/
theorem foldl_laneFields {field : LaneId → Setting} (h : ∀ i g, (field i).apply g = g.modLane i (field i).onLane)
    (lanes : Vector LaneSettings 4) (q a j c high low : Nat) (p : Vector Bool 2) :
    (laneFields field).foldl (fun g x => x.apply g) ⟨lanes, q, a, j, c, high, low, p⟩
      = ⟨Vector.ofFn fun i => (field i).onLane lanes[i], q, a, j, c, high, low, p⟩ := by
  have four : laneFields field = [field 0, field 1, field 2, field 3] := rfl
  simp only [four, List.foldl_cons, List.foldl_nil, h, Settings.modLane]
  congr 1
  ext1 i hi
  interval_cases i <;> simp

/-- The seven fields of a lane, written over any settings of it, make them these. -/
theorem Setting.onLane_all (i : LaneId) (l old : LaneSettings) : (Setting.mode i l.mode).onLane
    ((Setting.stepPeriod i l.stepPeriod).onLane ((Setting.throwSteps i l.throwSteps).onLane ((Setting.trim i l.trim).onLane
      ((Setting.dBG i l.dBG).onLane ((Setting.dAB i l.dAB).onLane ((Setting.enable i l.enable).onLane old)))))) = l := by
  simp only [Setting.onLane]

/-- Written over any configuration, the fields of `g` make it `g`. -/
theorem Settings.foldl_fields (g old : Settings) : g.fields.foldl (fun g x => x.apply g) old = g := by
  obtain ⟨lanes, q, a, j, c, high, low, p⟩ := old
  have bays : ((List.finRange 2).map fun b => Setting.autopower b g.autopower[b])
      = [.autopower 0 g.autopower[0], .autopower 1 g.autopower[1]] := rfl
  have powered : (p.set 0 g.autopower[0]).set 1 g.autopower[1] = g.autopower := by
    ext i hi
    interval_cases i <;> simp
  simp only [Settings.fields, List.foldl_append]
  rw [foldl_laneFields (field := fun i => .enable i g.lanes[i].enable) fun _ _ => rfl,
    foldl_laneFields (field := fun i => .dAB i g.lanes[i].dAB) fun _ _ => rfl,
    foldl_laneFields (field := fun i => .dBG i g.lanes[i].dBG) fun _ _ => rfl,
    foldl_laneFields (field := fun i => .trim i g.lanes[i].trim) fun _ _ => rfl,
    foldl_laneFields (field := fun i => .throwSteps i g.lanes[i].throwSteps) fun _ _ => rfl,
    foldl_laneFields (field := fun i => .stepPeriod i g.lanes[i].stepPeriod) fun _ _ => rfl,
    foldl_laneFields (field := fun i => .mode i g.lanes[i].mode) fun _ _ => rfl, bays]
  generalize written : (Vector.ofFn fun i : LaneId => (Setting.mode i g.lanes[i].mode).onLane _) = ls
  have same : ls = g.lanes := by
    subst written
    ext1 i hi
    simp only [Vector.getElem_ofFn, Fin.getElem_fin]
    exact Setting.onLane_all ⟨i, hi⟩ g.lanes[i] lanes[i]
  rw [same]
  simp only [List.foldl_cons, List.foldl_nil, Setting.apply]
  exact congrArg (Settings.mk g.lanes _ _ _ _ _ _) powered

theorem Settings.mem_fields_mode (g : Settings) (i : LaneId) : .mode i g.lanes[i].mode ∈ g.fields := by
  simp [Settings.fields, laneFields]

/-- Settles O15: the items are read back as the fields, no lane, order or docket guards one, and all written make `g`. -/
theorem configWritesWhatItReads : Obligations.ConfigWritesWhatItReads := by
  intro g s free started idle off empty orders count normal lanes quiet quiet' auto jam jam' cash cash' top marks high
  have lane (i : LaneId) : LaneRanged g.lanes[i] := by
    obtain ⟨dAB, dAB', dBG, dBG', trim, trim', throw, throw', period, period'⟩ := lanes i
    exact ⟨⟨dAB, dAB'⟩, ⟨dBG, dBG'⟩, ⟨trim, trim'⟩, ⟨throw, throw'⟩, ⟨period, period'⟩⟩
  have ranged : g.Ranged := ⟨lane, ⟨quiet, quiet'⟩, auto, ⟨jam, jam'⟩, ⟨cash, cash'⟩, ⟨high, top⟩, marks⟩
  have read := g.map_settingOf_items ranged
  have after : g.fields.foldl (fun g x => x.apply g) s.heard.settings = g := g.foldl_fields _
  have unguarded : ∀ x ∈ g.fields, ¬ s.heard.Guarded x := by
    rintro x - (⟨i, -, on⟩ | ⟨-, ⟨o, ho, -⟩ | ⟨d, hd, -⟩⟩)
    · exact on (off i)
    · rw [State.heard_queue, orders] at ho; cases ho
    · rw [State.heard_dockets, State.dockets_eq_nil.2 empty] at hd; cases hd
  obtain ⟨rephased, written, lane⟩ := State.foldl_writeSetting_eq (modesOnce_of_read read g.nodup_items) s.heard
  rw [after] at written
  have calm : State.evaluatePressure { s.heard with settings := g, lanes := rephased }
      = { s.heard with settings := g, lanes := rephased } := by
    have stays : s.queue.pressure.next g.highMark g.lowMark s.queue.commitments = s.queue.pressure := by
      rw [normal, count, Pressure.next, if_neg (by omega)]
    exact if_pos stays
  have all : s.heard.writeSettings g.fields = { s.heard with settings := g, lanes := rephased } := by
    rw [State.writeSettings, written]
    split
    · exact calm
    · rfl
  refine ⟨{ s.heard with settings := g, lanes := rephased }, ?_, rfl, rfl, rfl, rfl, rfl, rfl, rfl, rfl,
    fun i => (lane i).1 _ (g.mem_fields_mode i)⟩
  refine exec_configWrite free started (by rw [g.length_items]; decide) (by rw [g.length_items]; decide) ?_
  rw [decideConfigWrite_accepted (s := s.heard) read g.nodup_items (by rw [after]; exact marks) unguarded idle, all]
  rfl

end Sys2Proof.Machine
end


section
/-! PROOF. The edges of a lane's beams, its neck edges, its damage button and its tag port (R1 to R18), and the faults that hold
a lane (R19, R58 to R60). -/

namespace Sys2Proof.Machine

theorem isNone_eq_false {α : Type} {x : Option α} (h : x ≠ none) : x.isNone = false := by
  cases x
  · contradiction
  · rfl

section

variable {s : State} {i : LaneId}

/-! ### Edges and levels (R1, R2, R18) -/

theorem State.beamA_same {on : Bool} (h : (s.lane i).beamA.level = on) : s.beamA i on = s := if_pos h

theorem State.beamB_same {on : Bool} (h : (s.lane i).beamB.level = on) : s.beamB i on = s := if_pos h

theorem State.beamA_edge {on : Bool} (h : (s.lane i).beamA.level = !on) :
    s.beamA i on = (s.modLane i fun l => { l with beamA := Line.steady on }).edgeA i on :=
  if_neg (by rw [h]; exact Bool.not_ne_self on)

theorem State.beamB_edge {on : Bool} (h : (s.lane i).beamB.level = !on) :
    s.beamB i on = (s.modLane i fun l => { l with beamB := Line.steady on }).edgeB i on :=
  if_neg (by rw [h]; exact Bool.not_ne_self on)

theorem State.measures_eq_false (h : (s.lane i).state ≠ .running) : s.measures i = false := decide_eq_false h

theorem State.edgeA_idle {on : Bool} (h : (s.lane i).state ≠ .running) :
    s.edgeA i on = s.modLane i fun l => { l with jamA := none } := by
  simp [State.edgeA, State.measures_eq_false h]

theorem State.edgeB_idle {on : Bool} (h : (s.lane i).state ≠ .running) :
    s.edgeB i on = s.modLane i fun l => { l with jamB := none } := by
  simp [State.edgeB, State.measures_eq_false h]

theorem State.edgeA_on (h : (s.lane i).state = .running) :
    s.edgeA i true = (s.modLane i fun l => { l with jamA := some s.jamDue }).measureAOn i := by
  simp [State.edgeA, State.measures_iff.2 h]

theorem State.edgeA_off (h : (s.lane i).state = .running) :
    s.edgeA i false = (s.modLane i fun l => { l with jamA := none }).measureAOff i := by
  simp [State.edgeA, State.measures_iff.2 h]

theorem State.edgeB_on (h : (s.lane i).state = .running) :
    s.edgeB i true = (s.modLane i fun l => { l with jamB := some s.jamDue }).measureBOn i := by
  simp [State.edgeB, State.measures_iff.2 h]

theorem State.edgeB_off (h : (s.lane i).state = .running) :
    s.edgeB i false = (s.modLane i fun l => { l with jamB := none }).measureBOff i := by
  simp [State.edgeB, State.measures_iff.2 h]

theorem State.beamA_idle {on : Bool} (level : (s.lane i).beamA.level = !on) (idle : (s.lane i).state ≠ .running) :
    s.beamA i on = s.modLane i fun l => { l with beamA := Line.steady on, jamA := none } := by
  rw [State.beamA_edge level, State.edgeA_idle (by simpa using idle), State.modLane_modLane]
  rfl

theorem State.beamB_idle {on : Bool} (level : (s.lane i).beamB.level = !on) (idle : (s.lane i).state ≠ .running) :
    s.beamB i on = s.modLane i fun l => { l with beamB := Line.steady on, jamB := none } := by
  rw [State.beamB_edge level, State.edgeB_idle (by simpa using idle), State.modLane_modLane]
  rfl

theorem State.beamA_on (level : (s.lane i).beamA.level = false) (running : (s.lane i).state = .running) :
    s.beamA i true =
      (s.modLane i fun l => { l with beamA := Line.steady true, jamA := some s.jamDue }).measureAOn i := by
  rw [State.beamA_edge level, State.edgeA_on (by simpa using running), State.modLane_modLane]
  rfl

theorem State.beamA_off (level : (s.lane i).beamA.level = true) (running : (s.lane i).state = .running) :
    s.beamA i false = (s.modLane i fun l => { l with beamA := Line.steady false, jamA := none }).measureAOff i := by
  rw [State.beamA_edge level, State.edgeA_off (by simpa using running), State.modLane_modLane]
  rfl

theorem State.beamB_on (level : (s.lane i).beamB.level = false) (running : (s.lane i).state = .running) :
    s.beamB i true =
      (s.modLane i fun l => { l with beamB := Line.steady true, jamB := some s.jamDue }).measureBOn i := by
  rw [State.beamB_edge level, State.edgeB_on (by simpa using running), State.modLane_modLane]
  rfl

theorem State.beamB_off (level : (s.lane i).beamB.level = true) (running : (s.lane i).state = .running) :
    s.beamB i false = (s.modLane i fun l => { l with beamB := Line.steady false, jamB := none }).measureBOff i := by
  rw [State.beamB_edge level, State.edgeB_off (by simpa using running), State.modLane_modLane]
  rfl

/-! ### Measurement (R9 to R13) -/

/-- Two changes of a lane are the one whose result on the lane as it stands is theirs. -/
theorem State.modLane_twice {f g k : Lane → Lane} (h : g (f (s.lane i)) = k (s.lane i)) :
    (s.modLane i f).modLane i g = s.modLane i k := by
  rw [State.modLane_modLane]
  exact State.modLane_congr h

theorem State.measureAOn_room (room : (s.lane i).span.length < 2) :
    s.measureAOn i = s.modLane i fun l => { l with
      span := l.span ++ [Passage.new l.nextSeq s.tick]
      nextSeq := nextSeqOf l.nextSeq
      docket := l.docket.map fun d => if d.state = .closing then d else { d with state := .opened }
      quietTimer := if l.docket.any (·.state ≠ .closing) then some s.quietDue else l.quietTimer
      autoCloseTimer := if l.docket.any (·.state ≠ .closing) then none else l.autoCloseTimer } := by
  rw [State.measureAOn, if_pos (show _ < Config.spanMax from room)]
  refine State.modLane_twice ?_
  cases docket : (s.lane i).docket with
  | none => simp
  | some d =>
    by_cases closing : d.state = .closing
    · simp [closing]
    · simp [closing]

theorem Passage.atB_iff {p : Passage} : p.atB = true ↔ p.tBOn ≠ none ∧ p.tBOff = none := by
  simp [Passage.atB, Option.isSome_iff_ne_none]

theorem Passage.atB_eq_false {p : Passage} (h : p.tBOn = none ∨ p.tBOff ≠ none) : p.atB = false := by
  rw [← Bool.not_eq_true, Passage.atB_iff]
  rintro ⟨on, off⟩
  rcases h with h | h <;> contradiction

theorem State.measureAOff_newest {xs ys : List Passage} {p : Passage} (span : (s.lane i).span = xs ++ p :: ys)
    (on : p.tAOff = none) (off : ∀ q ∈ ys, q.tAOff ≠ none) :
    s.measureAOff i = s.modLane i fun l => { l with span := xs ++ { p with tAOff := some s.tick } :: ys } := by
  refine State.modLane_congr ?_
  simp only [span]
  rw [modifyLast_at (fun q hq => isNone_eq_false (off q hq)) (by simp [on])]

theorem State.measureAOff_none (off : ∀ q ∈ (s.lane i).span, q.tAOff ≠ none) : s.measureAOff i = s := by
  refine State.modLane_eq_self ?_
  rw [modifyLast_of_none fun q hq => isNone_eq_false (off q hq)]

theorem State.measureBOn_oldest {xs ys : List Passage} {p : Passage} (span : (s.lane i).span = xs ++ p :: ys)
    (taken : ∀ q ∈ xs, q.tBOn ≠ none) (free : p.tBOn = none) :
    s.measureBOn i = s.modLane i fun l => { l with
      span := xs ++ p.measureBOn (s.laneSettings i) s.tick :: ys } := by
  rw [State.measureBOn, if_pos (by simp [span, free])]
  refine State.modLane_congr ?_
  simp only [span]
  rw [modifyFirst_at (fun q hq => isNone_eq_false (taken q hq)) (by simp [free])]

theorem State.measureBOn_stray (taken : ∀ q ∈ (s.lane i).span, q.tBOn ≠ none) :
    s.measureBOn i = s.laneFault i .strayAtB := by
  rw [State.measureBOn, if_neg]
  simpa using taken

theorem State.measureBOff_none (clear : ∀ q ∈ (s.lane i).span, q.tBOn = none ∨ q.tBOff ≠ none) : s.measureBOff i = s := by
  rw [State.measureBOff, List.find?_eq_none.2 fun q hq => by rw [Passage.atB_eq_false (clear q hq)]; exact nofun]

section

variable {xs ys : List Passage} {p : Passage} (span : (s.lane i).span = xs ++ p :: ys)
  (clear : ∀ q ∈ xs, q.tBOn = none ∨ q.tBOff ≠ none) (off : p.tBOff = none)

include span clear off

theorem State.find?_atB (on : p.tBOn ≠ none) : (s.lane i).span.find? Passage.atB = some p := by
  rw [span, find?_at (fun q hq => Passage.atB_eq_false (clear q hq)) (Passage.atB_iff.2 ⟨on, off⟩)]

theorem State.measureBOff_finished {aOff bOn : Tick} (on : p.tBOn = some bOn) (aOff_ : p.tAOff = some aOff) :
    s.measureBOff i = s.finishRecord i (p.measureBOff (s.laneSettings i) aOff bOn s.tick) := by
  rw [State.measureBOff, State.find?_atB span clear off (by simp [on])]
  simp only [on, aOff_]

theorem State.measureBOff_stray (on : p.tBOn ≠ none) (aOn : p.tAOff = none) :
    s.measureBOff i = s.laneFault i .strayAtB := by
  rw [State.measureBOff, State.find?_atB span clear off on]
  simp only [aOn]

theorem State.measureNeck_atB (on : p.tBOn ≠ none) :
    s.measureNeck i = s.modLane i fun l => { l with span := xs ++ { p with necks := satAdd 255 1 p.necks } :: ys } := by
  refine State.modLane_congr ?_
  simp only [span]
  rw [modifyFirst_at (fun q hq => Passage.atB_eq_false (clear q hq)) (Passage.atB_iff.2 ⟨on, off⟩)]

end

theorem State.measureNeck_none (clear : ∀ q ∈ (s.lane i).span, q.tBOn = none ∨ q.tBOff ≠ none) : s.measureNeck i = s := by
  refine State.modLane_eq_self ?_
  rw [modifyFirst_of_none fun q hq => Passage.atB_eq_false (clear q hq)]

theorem State.neckBlocked_eq :
    s.neckBlocked i = (s.modLane i fun l => { l with neck := Line.passing true }).edgeNeck i := by
  rw [State.neckBlocked, State.neckClear, State.modLane_modLane]
  rfl

/-! ### A finished record (R15 to R17, R36, R37) -/

theorem unsteadyBy_iff (occA occB : Nat) :
    unsteadyBy occA occB = true ↔ occA < 8 * (occB - occA) ∨ occA < 8 * (occA - occB) := by
  simp only [unsteadyBy, decide_eq_true_iff]
  omega

theorem Passage.measureBOff_eq (g : LaneSettings) (aOff bOn t : Tick) (p : Passage) :
    let travel := max 1 (Tick.since bOn p.tAOn)
    let occA := Tick.since aOff p.tAOn
    let occB := Tick.since t bOn
    p.measureBOff g aOff bOn t = { p with
      tBOff := some t
      length := some (min 4095 (((2 * occA * g.dAB + travel) / (2 * travel) : Nat) + g.trim).toNat)
      speed := some (g.dAB * 4000 / travel)
      unsteady := p.unsteady.or
        (if occA < 8 * (occB - occA) ∨ occA < 8 * (occA - occB) then some .unsteady else none)
      gateClear := p.gateArrival.map (· + BitVec.ofNat 32 occA) } := by
  intro travel occA occB
  have mark : (match p.unsteady with
      | some u => some u
      | none => if unsteadyBy occA occB then some .unsteady else none)
      = p.unsteady.or (if occA < 8 * (occB - occA) ∨ occA < 8 * (occA - occB) then some .unsteady else none) := by
    simp only [unsteadyBy_iff]
    cases p.unsteady <;> rfl
  rw [Nat.min_comm 4095, ← mark]
  rfl

theorem State.queueRefused_eq (p : Passage) (r : RefuseReason) :
    s.queueRefused i p r = State.join (.lane i) (s.modLane i fun l => { l with
      travel := l.travel ++ [{ p with disposition := some (.refuse r) }]
      lastRefuse := some r
      flags := { l.flags with refused := true, docketFull := l.flags.docketFull || r = .docketFull } }) := by
  rw [State.queueRefused, State.raiseLane_eq]
  exact congrArg (State.join _) (State.modLane_twice rfl)

theorem State.classify_refused {p : Passage} {r : RefuseReason}
    (key : classifyKey s.types (s.lane i).docket p = .error r) : s.classify i p = s.queueRefused i p r := by
  rw [State.classify, key]

theorem State.classify_full {p : Passage} {k : RunKey} (key : classifyKey s.types (s.lane i).docket p = .ok k)
    (full : reserveKey (s.lane i).docket k = none) : s.classify i p = s.queueRefused i p .docketFull := by
  rw [State.classify, key]
  simp only [full]

theorem State.classify_accepted {p : Passage} {k : RunKey} {d : Docket} {n : Nat}
    (key : classifyKey s.types (s.lane i).docket p = .ok k) (place : reserveKey (s.lane i).docket k = some (d, n)) :
    s.classify i p = s.queueAccepted i p k d n := by
  rw [State.classify, key]
  simp only [place]

theorem State.finishRecord_room {p : Passage} (room : (s.lane i).travel.length < 4) :
    s.finishRecord i p = ((s.modLane i fun l => { l with span := l.span.eraseP Passage.atB }).classify i p).tryMove i :=
  if_pos room

theorem State.finishRecord_full {p : Passage} (full : 4 ≤ (s.lane i).travel.length) :
    s.finishRecord i p =
      (s.modLane i fun l => { l with span := modifyFirst Passage.atB (fun _ => p) l.span }).laneFault i .crowded :=
  if_neg (Nat.not_lt.2 full)

/-- With room in the travel queue, the end of beam B measures the record and queues it. -/
theorem State.beamB_off_finished {xs ys : List Passage} {p : Passage} {aOff bOn : Tick}
    (level : (s.lane i).beamB.level = true) (running : (s.lane i).state = .running)
    (room : (s.lane i).travel.length < 4) (span : (s.lane i).span = xs ++ p :: ys)
    (clear : ∀ q ∈ xs, q.tBOn = none ∨ q.tBOff ≠ none) (on : p.tBOn = some bOn) (off : p.tBOff = none)
    (aOff_ : p.tAOff = some aOff) :
    s.beamB i false = (State.classify i (p.measureBOff (s.laneSettings i) aOff bOn s.tick) (s.modLane i fun l => { l with
      beamB := Line.steady false, jamB := none, span := xs ++ ys })).tryMove i := by
  rw [State.beamB_off level running, State.measureBOff_finished (by simpa using span) clear off on aOff_,
    State.finishRecord_room (by simpa using room)]
  refine congrArg (fun u => (State.classify i _ u).tryMove i) (State.modLane_twice ?_)
  simp only [span, eraseP_at (fun q hq => Passage.atB_eq_false (clear q hq)) (Passage.atB_iff.2 ⟨by simp [on], off⟩)]

/-! ### The tag port (R5 to R7) -/

theorem State.tagCharacter_byte {start t : Tick} {c : Cells} {b : Byte} (read : readCharacter c = .byte b) :
    s.tagCharacter i start t c = s.assembleTag i ((s.lane i).tagRx.kept start) b t := by
  rw [State.tagCharacter, read]

theorem TagReceiver.kept_late {r : TagReceiver} {start : Tick} (late : 20 < Tick.since start r.lastStop) :
    r.kept start = [] := if_pos late

theorem TagReceiver.kept_onTime {r : TagReceiver} {start : Tick} (onTime : Tick.since start r.lastStop ≤ 20) :
    r.kept start = r.bytes := if_neg (Nat.not_lt.2 onTime)

theorem State.assembleTag_partial {kept : List Byte} {b : Byte} {t : Tick} (short : kept.length < 3) :
    s.assembleTag i kept b t = s.setTagBytes i (kept ++ [b]) t := by
  unfold State.assembleTag
  split
  · simp at short
  · rfl

theorem State.attachTag_oldest {g : Tag} {xs ys : List Passage} {p : Passage} (span : (s.lane i).span = xs ++ p :: ys)
    (tagged : ∀ q ∈ xs, q.tag ≠ none) (free : p.tag = none) :
    s.attachTag i g = s.modLane i fun l => { l with span := xs ++ { p with tag := some g } :: ys } := by
  rw [State.attachTag, if_pos (by simp [span, free])]
  refine State.modLane_congr ?_
  simp only [span]
  rw [modifyFirst_at (fun q hq => isNone_eq_false (tagged q hq)) (by simp [free])]

theorem State.attachTag_none {g : Tag} (tagged : ∀ q ∈ (s.lane i).span, q.tag ≠ none) :
    s.attachTag i g = s.raiseLane i fun f => { f with tagIgnored := true } := by
  rw [State.attachTag, if_neg]
  simpa using tagged

end

/-- Settles O19: a level already held is no edge, an edge outside RUNNING only stops the timer, and in RUNNING the record it
makes or changes is found in the span list by its missing tick. -/
theorem beamAEdges : Obligations.BeamAEdges := by
  intro i t s
  refine ⟨fun level => congrArg finish (State.beamA_same (s := s.at t) level),
    fun level => congrArg finish (State.beamA_same (s := s.at t) level),
    fun level idle => congrArg finish (State.beamA_idle (s := s.at t) level idle),
    fun level idle => congrArg finish (State.beamA_idle (s := s.at t) level idle), fun level running room => ?_,
    fun level running => ⟨fun xs p ys span on off => ?_, fun off => ?_⟩⟩
  · refine congrArg finish ((State.beamA_on (s := s.at t) level running).trans ?_)
    rw [State.measureAOn_room (by simpa using room)]
    exact State.modLane_twice rfl
  · refine congrArg finish ((State.beamA_off (s := s.at t) level running).trans ?_)
    rw [State.measureAOff_newest (by simpa using span) on off]
    exact State.modLane_twice rfl
  · refine congrArg finish ((State.beamA_off (s := s.at t) level running).trans ?_)
    exact State.measureAOff_none (by simpa using off)

/-- Settles O20, by the same cases: the oldest record without tB_on is measured. -/
theorem beamBLeadingEdge : Obligations.BeamBLeadingEdge := by
  intro i t s
  refine ⟨fun level => congrArg finish (State.beamB_same (s := s.at t) level),
    fun level idle => congrArg finish (State.beamB_idle (s := s.at t) level idle),
    fun level running xs p ys span taken free => ?_⟩
  refine congrArg finish ((State.beamB_on (s := s.at t) level running).trans ?_)
  rw [State.measureBOn_oldest (by simpa using span) taken free]
  refine State.modLane_twice ?_
  simp only [Passage.measureBOn, travelValid, gateOffset, Bool.and_eq_true, decide_eq_true_iff]
  rfl

/-- Settles O22: a neck edge finds its record by its beam-B ticks, a press takes the head of the span list. -/
theorem necksAndDamage : Obligations.NecksAndDamage := by
  intro i t s
  have neck := State.neckBlocked_eq (s := s.at t) (i := i)
  refine ⟨fun none_ => ?_, fun running xs p ys span clear on off bound => ?_, fun level => ?_, fun level p ps span => ?_,
    fun level span => ?_, fun level => ?_, fun level => ?_⟩
  · refine congrArg finish (neck.trans ?_)
    unfold State.edgeNeck
    split
    next running =>
      have running : (s.lane i).state = .running := by simpa using State.measures_iff.1 running
      exact State.measureNeck_none (by simpa using none_.resolve_left (not_not_intro running))
    · rfl
  · refine congrArg finish (neck.trans ?_)
    rw [State.edgeNeck, if_pos (State.measures_iff.2 (by simpa using running)),
      State.measureNeck_atB (by simpa using span) clear off on]
    refine State.modLane_twice ?_
    have necks : satAdd 255 1 p.necks = if p.necks = 255 then 255 else p.necks + 1 := by
      unfold satAdd
      split <;> omega
    simp only [necks]
  · exact congrArg finish (if_pos level)
  · refine congrArg finish ((if_neg (by simp [level])).trans ?_)
    simp only [if_true, State.press, State.lane_modLane_self, State.lane_at, span]
    exact State.modLane_twice rfl
  · refine congrArg finish ((if_neg (by simp [level])).trans ?_)
    simp only [if_true, State.press, State.lane_modLane_self, State.lane_at, span, State.raiseLane_eq]
    exact congrArg (State.join _) (State.modLane_twice rfl)
  · refine congrArg finish ((if_neg (by simp [level])).trans ?_)
    rfl
  · exact congrArg finish (if_pos level)

/-- Settles O21: the record under beam B, measured, goes where classification and the plan send it. -/
theorem beamBTrailingEdge : Obligations.BeamBTrailingEdge := by
  intro i t s
  refine ⟨fun level => congrArg finish (State.beamB_same (s := s.at t) level), fun level none_ => congrArg finish ?_,
    fun level running room xs p ys aOff bOn span clear on off aOff_ => ?_⟩
  · by_cases running : (s.lane i).state = .running
    · rw [State.beamB_off (s := s.at t) level running]
      exact State.measureBOff_none (by simpa using none_.resolve_left (not_not_intro running))
    · exact State.beamB_idle (s := s.at t) level running
  · intro g travel occA occB q
    have finished := State.beamB_off_finished (s := s.at t) level running room span clear on off aOff_
    rw [show p.measureBOff ((s.at t).laneSettings i) aOff bOn (s.at t).tick = q from Passage.measureBOff_eq g aOff bOn t p]
      at finished
    refine ⟨fun r key => congrArg finish ?_, fun k d key docket => ⟨fun full => congrArg finish ?_,
      fun d' n place => congrArg finish ?_⟩⟩
    · rw [finished, State.classify_refused (by simpa using key), State.queueRefused_eq]
      exact congrArg (fun u => State.tryMove i (State.join _ u)) (State.modLane_twice rfl)
    · rw [finished, State.classify_full (by simpa using key) (by simpa [docket, reserveKey] using full),
        State.queueRefused_eq]
      refine congrArg (fun u => State.tryMove i (State.join _ u)) (State.modLane_twice ?_)
      simp
    · rw [finished, State.classify_accepted (by simpa using key) (by simpa [docket, reserveKey] using place)]
      exact congrArg (State.tryMove i) (State.modLane_twice rfl)

/-- Settles O23: what a character does to the report, and where a complete one goes. -/
theorem tagReports : Obligations.TagReports := by
  intro i start t c b s
  have taken (read : readCharacter c = .byte b) := State.tagCharacter_byte (s := s.at t) (i := i) (start := start) (t := t) read
  refine ⟨fun read => congrArg finish ?_, fun read short onTime => congrArg finish ?_, fun read late => congrArg finish ?_,
    fun read onTime owner lo hi bytes => ?_, fun read => congrArg finish ?_, fun begun => congrArg finish ?_,
    fun none_ => congrArg finish ?_⟩
  · rw [State.tagCharacter, read]
  · rw [taken read, State.lane_at, TagReceiver.kept_onTime onTime, State.assembleTag_partial short]
    exact State.modLane_congr rfl
  · rw [taken read, State.lane_at, TagReceiver.kept_late late, State.assembleTag_partial (by decide)]
    rfl
  · have complete : (s.at t).tagCharacter i start t c = ((s.at t).setTagBytes i [] t).tagReport i owner lo hi b := by
      rw [taken read, State.lane_at, TagReceiver.kept_onTime onTime, bytes]
      rfl
    refine ⟨fun bad => congrArg finish ?_, fun sum code => ⟨fun xs p ys span tagged free => congrArg finish ?_,
      fun tagged => congrArg finish ?_⟩⟩
    · rw [complete, State.tagReport, if_neg]
      · rfl
      · rintro ⟨sum, code⟩
        exact bad.elim (fun h => h sum) code
    all_goals rw [complete, State.tagReport, if_pos ⟨sum, code⟩]
    · rw [State.attachTag_oldest (by simpa [State.setTagBytes] using span) tagged free]
      exact State.modLane_twice rfl
    · rw [State.attachTag_none (by simpa [State.setTagBytes] using tagged), State.raiseLane_eq]
      exact congrArg (State.join _) (State.modLane_twice rfl)
  · rw [State.tagCharacter, read]
  · rw [TagReceiver.expires, if_neg begun]
    rfl
  · rw [TagReceiver.expires, if_pos none_]
    rfl

end Sys2Proof.Machine
end


section
/-! PROOF. What holds a lane, moves its paddle and closes its docket: faults (R19, R58 to R60), moves (R38, R39, R45, R46), the
quiet and auto-close timers (R66, R67, R88). -/

namespace Sys2Proof.Machine

section

variable {s : State} {i : LaneId}

/-! ### Faults (R58 to R60) -/

/-- A fault after another change of the lane is one change and one joining. -/
theorem State.laneFault_twice {f k : Lane → Lane} {r : HoldReason}
    (service : (f (s.lane i)).state = .homing ∨ (f (s.lane i)).state = .running)
    (holds : (f (s.lane i)).holds = HoldSet.empty) (other : r ≠ .cancelled)
    (same : Lane.heldBy r (f (s.lane i)) = Lane.heldBy r (k (s.lane i))) :
    (s.modLane i f).laneFault i r =
      State.settleIfClosing i (State.join (.lane i) (s.modLane i fun l => Lane.heldBy r (k l))) := by
  rw [State.laneFault_eq (by simpa using service) (by simp [holds]) other]
  exact congrArg (fun u => State.settleIfClosing i (State.join _ u)) (State.modLane_twice same)

theorem State.laneFault_idle {r : HoldReason} (idle : (s.lane i).state = .off ∨ (s.lane i).state = .held) :
    s.laneFault i r = s := by
  unfold State.laneFault
  rcases idle with h | h <;> rw [h]

theorem State.measureAOn_crowded (full : 2 ≤ (s.lane i).span.length) : s.measureAOn i = s.laneFault i .crowded :=
  if_neg (Nat.not_lt.2 full)

theorem exec_jam_of_timer {due : Tick} {beam : Beam} (timer : (s.lane i).jamTimer beam = some due) :
    exec (.jam i beam) s = finish (State.jamExpires i beam (s.reach due)) := by
  show finish (s.expire _ _) = _
  rw [timer]
  rfl

theorem exec_jam_idle {beam : Beam} (timer : (s.lane i).jamTimer beam = none) : exec (.jam i beam) s = finish s := by
  show finish (s.expire _ _) = _
  rw [timer]
  rfl

theorem State.jamExpires_running (beam : Beam) (running : (s.lane i).state = .running)
    (holds : (s.lane i).holds = HoldSet.empty) :
    s.jamExpires i beam = State.settleIfClosing i (State.join (.lane i) (s.modLane i (Lane.heldBy .jam))) := by
  rw [State.jamExpires]
  cases beam
  case a => exact State.laneFault_twice (k := id) (.inr running) holds (by decide) rfl
  case b => exact State.laneFault_twice (k := id) (.inr running) holds (by decide) rfl

end

/-- Settles O24: each fault is `Lane.heldBy` on the lane as its event leaves it, and settling follows. -/
theorem faultsHoldTheLane : Obligations.FaultsHoldTheLane := by
  intro i t s heldFrom
  refine ⟨fun running holds => ⟨fun level full => congrArg finish ?_, fun level taken => congrArg finish ?_,
    fun xs p ys level span clear on off => ⟨fun aOn => congrArg finish ?_, fun aOff full => congrArg finish ?_⟩,
    fun due timer => ?_, fun due timer => ?_⟩, fun due idle => ⟨fun timer => ?_, fun timer => ?_⟩,
    fun timer => exec_jam_idle timer, fun timer => exec_jam_idle timer⟩
  · rw [State.beamA_on (s := s.at t) level running, State.measureAOn_crowded (by simpa using full)]
    exact State.laneFault_twice (.inr running) holds (by decide) rfl
  · rw [State.beamB_on (s := s.at t) level running, State.measureBOn_stray (by simpa using taken)]
    exact State.laneFault_twice (.inr running) holds (by decide) rfl
  · rw [State.beamB_off (s := s.at t) level running, State.measureBOff_stray (by simpa using span) clear off on aOn]
    exact State.laneFault_twice (.inr running) holds (by decide) rfl
  · obtain ⟨bOn, on⟩ := Option.ne_none_iff_exists'.1 on
    obtain ⟨aOff, aOff_⟩ := Option.ne_none_iff_exists'.1 aOff
    rw [State.beamB_off (s := s.at t) level running, State.measureBOff_finished (by simpa using span) clear off on aOff_,
      State.finishRecord_full (by simpa using full), State.modLane_modLane]
    refine State.laneFault_twice (.inr running) holds (by decide) ?_
    simp [Lane.heldBy, Lane.voids, length_modifyFirst]
  · rw [exec_jam_of_timer (beam := .a) timer, State.jamExpires_running .a (by simpa using running) (by simpa using holds)]
    rfl
  · rw [exec_jam_of_timer (beam := .b) timer, State.jamExpires_running .b (by simpa using running) (by simpa using holds)]
    rfl
  · rw [exec_jam_of_timer (beam := .a) timer, State.jamExpires, State.laneFault_idle (by simpa using idle)]
    rfl
  · rw [exec_jam_of_timer (beam := .b) timer, State.jamExpires, State.laneFault_idle (by simpa using idle)]
    rfl

section

variable {s : State} {i : LaneId}

/-! ### Moves (R45, R46) -/

theorem State.tryMove_still (h : ∀ side, targetOf (s.lane i).travel = some side →
    ¬ ((s.lane i).state = .running ∧ ¬ (s.lane i).gateOccupied ∧ (s.lane i).diverter.step.isNone
      ∧ (s.lane i).diverter.position ≠ sidePosition (s.laneSettings i).throwSteps side)) : s.tryMove i = s := by
  unfold State.tryMove
  dsimp only
  split
  next side target => exact if_neg (h side target)
  next => rfl

theorem State.tryMove_begins {side : Side} (target : targetOf (s.lane i).travel = some side)
    (running : (s.lane i).state = .running) (gate : (s.lane i).gateOccupied = false)
    (still : (s.lane i).diverter.step = none)
    (away : (s.lane i).diverter.position ≠ sidePosition (s.laneSettings i).throwSteps side) :
    s.tryMove i = s.beginStep i side := by
  unfold State.tryMove
  dsimp only
  rw [target]
  exact if_pos ⟨running, by simp [gate], by simp [still], away⟩

theorem exec_stepComplete_of_due {due : Tick} (timer : (s.lane i).stepDue .running = some due) :
    exec (.stepComplete i) s = finish (State.completeStep i (s.reach due)) := by
  show finish (s.expire _ _) = _
  rw [timer]
  rfl

theorem Lane.stepDue_eq_some {l : Lane} {st : LaneState} {m : MotorStep} (state : l.state = st)
    (step : l.diverter.step = some m) : l.stepDue st = some m.due := by
  simp [Lane.stepDue, state, step]

theorem Lane.stepDue_eq_none {l : Lane} {st : LaneState} (h : l.state ≠ st ∨ l.diverter.step = none) :
    l.stepDue st = none := by
  unfold Lane.stepDue
  split
  next state => rw [h.resolve_left (not_not_intro state)]; rfl
  next => rfl

end

/-- Settles O26: a completed step moves the position, and the target is the oldest record's side while none is committed. -/
theorem paddleMovesTowardTheTarget : Obligations.PaddleMovesTowardTheTarget := by
  intro i s
  refine ⟨fun m running step => ?_, fun none_ => ?_, fun none_ => State.tryMove_still ?_, ?_⟩
  · rw [exec_stepComplete_of_due (Lane.stepDue_eq_some running step)]
    refine congrArg finish ?_
    simp only [State.completeStep, State.reach_lane, step, running, State.runningStep, State.modDiverter]
    refine congrArg (State.tryMove i) (State.modLane_congr ?_)
    cases m.toward <;> rfl
  · show finish (s.expire _ _) = _
    rw [Lane.stepDue_eq_none none_]
    rfl
  · rintro side target ⟨running, gate, still, -⟩
    rcases none_ with h | ⟨p, travel, committed⟩ | h | h
    · exact h running
    · exact gate (List.any_eq_true.2 ⟨p, travel, committed⟩)
    · exact h (by simpa using still)
    · simp [h, targetOf] at target
  · intro p ps d running travel uncommitted disposition still g n due
    have target : targetOf (s.lane i).travel = some d.side := by
      simp [travel, targetOf, uncommitted p (by simp), disposition]
    have gate : (s.lane i).gateOccupied = false := by
      rw [Lane.gateOccupied, List.any_eq_false]
      intro q hq
      rw [uncommitted q (by rwa [travel] at hq)]
      exact nofun
    have stays (at_ : (s.lane i).diverter.position = sidePosition g.throwSteps d.side) : s.tryMove i = s :=
      State.tryMove_still fun side side_ => by
        cases target.symm.trans side_
        exact fun h => h.2.2.2 at_
    have moves (away : (s.lane i).diverter.position ≠ sidePosition g.throwSteps d.side) : s.tryMove i = s.beginStep i d.side :=
      State.tryMove_begins target running gate still away
    have length : (s.laneSettings i).mode.patternLength = n := DriveMode.patternLength_eq _
    have begins (side : Side) : s.beginStep i side = s.modLane i fun l => { l with diverter := { l.diverter with
        phaseIndex := stepPhase n l.diverter.phaseIndex side, step := some ⟨side, due⟩ } } := by
      rw [State.beginStep, length]
      rfl
    refine ⟨?_, ?_, ?_, ?_⟩
    · rintro ⟨r, rfl⟩ at_
      exact stays at_
    · rintro ⟨r, rfl⟩ away
      exact (moves away).trans (begins .refuse)
    · rintro ⟨ty, c, k, rfl⟩ at_
      exact stays at_
    · rintro ⟨ty, c, k, rfl⟩ away
      exact (moves away).trans (begins .accept)

/-! ### The quiet and auto-close timers (R66, R67, R88) -/

section

variable {s : State} {i : LaneId}

theorem State.quietExpires_opened {d : Docket} (docket : (s.lane i).docket = some d) (opened : d.state = .opened) :
    s.quietExpires i = State.join (.lane i) (s.modLane i fun l => { l with
      docket := some { d with state := .quiet }
      quietTimer := none
      autoCloseTimer := s.autoCloseDue
      flags := { l.flags with quiet := true } }) := by
  rw [State.quietExpires, docket, Option.map_some, opened, if_pos rfl, State.raiseLane_eq, State.modDocket,
    State.modLane_modLane, State.modLane_modLane]
  refine congrArg (State.join _) (State.modLane_twice ?_)
  simp [docket]

theorem State.closeDocket_clear {c : CloseCause} (span : (s.lane i).span = []) (travel : (s.lane i).travel = []) :
    s.closeDocket i c = (s.modLane i (Lane.close c)).settleDocket i :=
  if_pos (Lane.clear_iff.2 ⟨span, travel⟩)

theorem State.closeDocket_busy {c : CloseCause} (busy : (s.lane i).span ≠ [] ∨ (s.lane i).travel ≠ []) :
    s.closeDocket i c = s.modLane i (Lane.close c) := by
  refine if_neg fun clear => ?_
  obtain ⟨span, travel⟩ := Lane.clear_iff.1 clear
  exact busy.elim (· span) (· travel)

theorem State.autoCloseExpires_quiet {d : Docket} (docket : (s.lane i).docket = some d) (quiet : d.state = .quiet) :
    s.autoCloseExpires i = (s.raiseLane i fun f => { f with autoClosed := true }).closeDocket i .auto := by
  rw [State.autoCloseExpires, docket, Option.map_some, quiet, if_pos rfl]

theorem State.raiseLane_close {d : Docket} {c : CloseCause} {f : LaneFlags → LaneFlags}
    (docket : (s.lane i).docket = some d) :
    (s.raiseLane i f).modLane i (Lane.close c) = State.join (.lane i) (s.modLane i fun l => { l with
      docket := some { d with state := .closing, closeCause := some c }
      quietTimer := none
      autoCloseTimer := none
      flags := f l.flags }) := by
  rw [State.raiseLane_eq, State.modLane_join]
  refine congrArg (State.join _) (State.modLane_twice ?_)
  simp [Lane.close, docket]

end

/-- Settles O28: each timer acts on the docket state it is armed in. -/
theorem quietDocketsClose : Obligations.QuietDocketsClose := by
  intro i s
  refine ⟨fun timer => ?_, fun timer => ?_, fun due d docket => ⟨fun timer opened => ?_, fun timer quiet =>
    ⟨fun busy => ?_, fun span travel => ?_⟩⟩⟩
  all_goals
    show finish (s.expire _ _) = _
    rw [timer]
    refine congrArg finish ?_
  · rfl
  · rfl
  · refine (State.quietExpires_opened (s := s.reach due) (by simpa using docket) opened).trans ?_
    simp only [State.autoCloseDue, State.reach_settings]
    rfl
  · refine (State.autoCloseExpires_quiet (s := s.reach due) (by simpa using docket) quiet).trans ?_
    rw [State.closeDocket_busy (by simpa using busy), State.raiseLane_close (by simpa using docket)]
  · refine (State.autoCloseExpires_quiet (s := s.reach due) (by simpa using docket) quiet).trans ?_
    rw [State.closeDocket_clear (by simpa using span) (by simpa using travel),
      State.raiseLane_close (by simpa using docket)]

end Sys2Proof.Machine
end


section
/-! PROOF. Homing (R41 to R43, R57), gate arrival and gate clear (R47 to R50). -/

namespace Sys2Proof.Machine

/-! ### DIV_HOME's filter (R1, R41) -/

theorem majority_same (a b : Bool) : majority a b b = b := by cases a <;> cases b <;> rfl

section

variable {s : State} {i : LaneId}

theorem Tick.eq_of_since {a b : Tick} (h : Tick.since b a = 0) : a = b := by
  have zero : b - a = 0 := BitVec.eq_of_toNat_eq h
  bv_omega

/-- What a told level makes of the diverter whose filter has run up to tick `t`. -/
def Diverter.toldAt (levels : Nat → Bool) (t : Tick) (home : Bool) (v : Diverter) : Diverter :=
  let run := (Diverter.passHome levels)^[min 3 (Tick.since t v.homeTick)] v
  { run with home := run.home.told home, homeTick := t }

theorem State.tellHome_eq (home : Bool) : s.tellHome i home = s.modLane i fun l => { l with
    diverter := l.diverter.toldAt (Config.divHome i s.port.resets) s.tick home } := by
  unfold State.tellHome State.settleHome State.modDiverter
  exact State.modLane_twice rfl

theorem Diverter.toldAt_frame (levels : Nat → Bool) (t : Tick) (home : Bool) (v : Diverter) :
    (v.toldAt levels t home).homingCount = v.homingCount ∧ (v.toldAt levels t home).phaseIndex = v.phaseIndex := by
  obtain ⟨line, run⟩ := Diverter.passHome_iterate levels (min 3 (Tick.since t v.homeTick)) v
  constructor <;> simp only [Diverter.toldAt, run]

/-! ### Home found, or a further step (R41 to R43) -/

theorem State.autoCloseDue_if (quiet : Prop) [Decidable quiet] :
    (if quiet then s.autoCloseDue else none) = if quiet ∧ s.settings.autoClose ≠ 0
      then some (s.tick + BitVec.ofNat 32 (s.settings.autoClose * 240000)) else none := by
  by_cases quiet <;> by_cases s.settings.autoClose = 0 <;> simp_all [State.autoCloseDue, State.after, Config.ticksPerMinute]

/-- Home found after another change of the lane is one change. -/
theorem State.homeFound_modLane (f : Lane → Lane) : (s.modLane i f).homeFound i = s.modLane i fun l => { f l with
    state := .running
    diverter := { (f l).diverter with position := 0, homed := true, step := none }
    jamA := if (f l).beamA.level = true then some (s.tick + BitVec.ofNat 32 (s.settings.jamTime * 4000)) else none
    jamB := if (f l).beamB.level = true then some (s.tick + BitVec.ofNat 32 (s.settings.jamTime * 4000)) else none
    quietTimer := if (f l).docket.map Docket.state = some .opened
      then some (s.tick + BitVec.ofNat 32 (s.settings.quietTime * 4000)) else none
    autoCloseTimer := if (f l).docket.map Docket.state = some .quiet ∧ s.settings.autoClose ≠ 0
      then some (s.tick + BitVec.ofNat 32 (s.settings.autoClose * 240000)) else none } := by
  rw [State.homeFound, State.modDiverter, State.modLane_modLane]
  refine State.modLane_twice ?_
  simp only [← State.autoCloseDue_if]
  rfl

/-- A step that begins after another change of the lane is one change. -/
theorem State.beginStep_modLane (f : Lane → Lane) (side : Side) :
    (s.modLane i f).beginStep i side = s.modLane i fun l => { f l with
      diverter := { (f l).diverter with
        phaseIndex := stepPhase (s.laneSettings i).mode.patternLength (f l).diverter.phaseIndex side
        step := some ⟨side, s.tick + BitVec.ofNat 32 ((s.laneSettings i).stepPeriod * 4)⟩ } } := by
  unfold State.beginStep State.modDiverter
  exact State.modLane_twice rfl

/-- The lane as homing begins. -/
def Lane.homing (l : Lane) : Lane :=
  { l with state := .homing, diverter := { l.diverter with homed := false, homingCount := 0, step := none } }

theorem State.homing_eq : (s.modLane i fun l => { l with state := .homing }).modDiverter i (fun v =>
    { v with homed := false, homingCount := 0, step := none }) = s.modLane i Lane.homing := by
  unfold State.modDiverter
  exact State.modLane_twice rfl

theorem State.beginHoming_found (home : (s.lane i).diverter.home.level = true) :
    s.beginHoming i = (s.modLane i Lane.homing).homeFound i := by
  rw [State.beginHoming, State.homing_eq]
  exact if_pos home

theorem State.beginHoming_away (home : (s.lane i).diverter.home.level = false) :
    s.beginHoming i = (s.modLane i Lane.homing).beginStep i .accept := by
  rw [State.beginHoming, State.homing_eq]
  exact if_neg (by simp [home])

/-- The lane after a homing step has completed. -/
def Lane.homingStepped (l : Lane) : Lane :=
  { l with diverter := { l.diverter with homingCount := l.diverter.homingCount + 1, step := none } }

theorem State.homingStep_found (home : (s.lane i).diverter.home.level = true) :
    s.homingStep i = (s.modLane i Lane.homingStepped).homeFound i :=
  if_pos home

section

variable (home : (s.lane i).diverter.home.level = false)

include home

theorem State.homingStep_further (below : (s.lane i).diverter.homingCount + 1 < (s.laneSettings i).throwSteps + 8) :
    s.homingStep i = (s.modLane i Lane.homingStepped).beginStep i .accept :=
  (if_neg (by simp [home])).trans (if_pos below)

theorem State.homingStep_last (last : (s.laneSettings i).throwSteps + 8 ≤ (s.lane i).diverter.homingCount + 1) :
    s.homingStep i = (s.modLane i Lane.homingStepped).laneFault i .diverterHome :=
  (if_neg (by simp [home])).trans (if_neg (Nat.not_lt.2 last))

end

theorem exec_homingStepComplete_of_step {m : MotorStep} {home : Bool} (homing : (s.lane i).state = .homing)
    (step : (s.lane i).diverter.step = some m) :
    exec (.homingStepComplete i home) s = finish (((s.reach m.due).tellHome i home).homingStep i) := by
  show finish (s.expire _ _) = _
  rw [Lane.stepDue_eq_some homing step]
  rfl

end

/-- Settles O25: DIV_HOME's filter runs up to the tick, the level told or read decides, and each way on is one change of the
lane. -/
theorem homingFindsHome : Obligations.HomingFindsHome := by
  intro i s v levels pass passed
  refine ⟨?_, fun zero => ?_, fun one same => ?_, fun two same => ?_, fun home => ?_, fun home => ?_,
    fun m homing step => ?_, fun home none_ => ?_⟩
  · unfold State.startHoming State.settleHome State.modDiverter
    exact congrArg (State.beginHoming i) (State.modLane_congr rfl)
  · rw [State.startHoming, State.settleHome_current (Tick.eq_of_since zero)]
  · rw [one]
    show majority _ v.home.s0 v.home.s1 = v.home.s0
    rw [same, majority_same]
  · rw [two]
    show majority _ (levels v.homeReads) v.home.s0 = v.home.s0
    rw [same, majority_same]
  · rw [State.beginHoming_found home, State.homeFound_modLane]
    rfl
  · intro n
    have length : (s.laneSettings i).mode.patternLength = n := DriveMode.patternLength_eq _
    rw [State.beginHoming_away home, State.beginStep_modLane, length]
    rfl
  · intro u g n count run told
    have lane : u.lane i = s.lane i := State.reach_lane _ _ _
    have settings : u.settings = s.settings := State.reach_settings _ _
    have laneSettings : u.laneSettings i = g := State.reach_laneSettings _ _ _
    have length : g.mode.patternLength = n := DriveMode.patternLength_eq _
    have toldAt (home : Bool) : (s.lane i).diverter.toldAt levels u.tick home = told home := rfl
    have frame (home : Bool) := Diverter.toldAt_frame levels u.tick home v
    have tellHome (home : Bool) : u.tellHome i home = u.modLane i fun l => { l with diverter := told home } := by
      rw [State.tellHome_eq, State.reach_port]
      exact State.modLane_congr (by rw [lane, toldAt])
    have stepped (home : Bool) : (u.tellHome i home).modLane i Lane.homingStepped = u.modLane i fun l => { l with
        diverter := { told home with homingCount := count, step := none } } := by
      rw [tellHome]
      refine State.modLane_twice ?_
      simp only [Lane.homingStepped, show (told home).homingCount = v.homingCount from (frame home).1]
      rfl
    have level (home : Bool) := State.level_tellHome u i home
    have counted : ((u.tellHome i false).lane i).diverter.homingCount + 1 = count := by
      rw [tellHome, State.lane_modLane_self]
      exact congrArg (· + 1) (frame false).1
    have settings_ : (u.tellHome i false).laneSettings i = g := by rw [tellHome, State.laneSettings_modLane, laneSettings]
    refine ⟨?_, fun below => ?_, fun last holds => ?_⟩
    all_goals
      rw [exec_homingStepComplete_of_step homing step]
      refine congrArg finish ?_
    · rw [State.homingStep_found (level true), stepped, State.homeFound_modLane, settings]
    · rw [State.homingStep_further (level false) (by rw [counted, settings_]; exact below), stepped,
        State.beginStep_modLane, laneSettings, length]
      refine State.modLane_congr ?_
      rw [lane, show (told false).phaseIndex = v.phaseIndex from (frame false).2]
      rfl
    · rw [State.homingStep_last (level false) (by rw [counted, settings_]; exact last), stepped]
      exact State.laneFault_twice (.inl (by rw [lane]; exact homing)) (by rw [lane]; exact holds) (by decide) rfl
  · show finish (s.expire _ _) = _
    rw [Lane.stepDue_eq_none none_]
    rfl

/-! ### The records gate events name (R44) -/

section

variable {seq : Nat} {p : Passage} {xs ys : List Passage}

theorem findSeq_at (before : ∀ q ∈ xs, q.seq = seq → q.committed = true) (named : p.seq = seq)
    (uncommitted : p.committed = false) : findSeq seq (xs ++ p :: ys) = some p := by
  refine find?_at (fun q hq => ?_) (by simp [named, uncommitted])
  by_cases h : q.seq = seq
  · simp [before q hq h]
  · simp [h]

theorem dropSeq_at (before : ∀ q ∈ xs, q.seq = seq → q.committed = true) (named : p.seq = seq)
    (uncommitted : p.committed = false) : dropSeq seq (xs ++ p :: ys) = xs ++ ys := by
  refine eraseP_at (fun q hq => ?_) (by simp [named, uncommitted])
  by_cases h : q.seq = seq
  · simp [before q hq h]
  · simp [h]

theorem commitSeq_at (before : ∀ q ∈ xs, q.seq = seq → q.committed = true) (named : p.seq = seq)
    (uncommitted : p.committed = false) : commitSeq seq (xs ++ p :: ys) = xs ++ { p with committed := true } :: ys := by
  refine modifyFirst_at (fun q hq => ?_) (by simp [named, uncommitted])
  by_cases h : q.seq = seq
  · simp [before q hq h]
  · simp [h]

theorem findSeq_eq_none (others : ∀ q ∈ xs, q.seq ≠ seq) : findSeq seq xs = none :=
  List.find?_eq_none.2 fun q hq => by simp [others q hq]

theorem dropSeq_eq_self (others : ∀ q ∈ xs, q.seq ≠ seq) : dropSeq seq xs = xs :=
  List.eraseP_of_forall_not fun q hq => by simp [others q hq]

theorem findSeq_some (found : findSeq seq xs = some p) : p ∈ xs ∧ p.seq = seq ∧ p.committed = false := by
  refine ⟨List.mem_of_find?_eq_some found, ?_⟩
  simpa using List.find?_some found

theorem findCommitted_some (found : findCommitted seq xs = some p) : p ∈ xs ∧ p.seq = seq ∧ p.committed = true := by
  refine ⟨List.mem_of_find?_eq_some found, ?_⟩
  simpa using List.find?_some found

theorem findCommitted_at (before : ∀ q ∈ xs, q.seq = seq → q.committed = false) (named : p.seq = seq)
    (committed : p.committed = true) : findCommitted seq (xs ++ p :: ys) = some p := by
  refine find?_at (fun q hq => ?_) (by simp [named, committed])
  by_cases h : q.seq = seq
  · simp [before q hq h]
  · simp [h]

theorem Lane.awaitingArrival_travel {l : Lane} {due : Tick} (found : findSeq seq l.travel = some p)
    (armed : p.gateArrival = some due) : l.awaitingArrival seq = some p := by
  obtain ⟨-, -, uncommitted⟩ := findSeq_some found
  simp [Lane.awaitingArrival, found, Passage.arrivalArmed, armed, uncommitted]

theorem Lane.awaitingArrival_span {l : Lane} {due : Tick} (none_ : findSeq seq l.travel = none)
    (found : findSeq seq l.span = some p) (armed : p.gateArrival = some due) : l.awaitingArrival seq = some p := by
  obtain ⟨-, -, uncommitted⟩ := findSeq_some found
  simp [Lane.awaitingArrival, none_, found, Passage.arrivalArmed, armed, uncommitted]

theorem Lane.awaitingArrival_eq_none {l : Lane}
    (unarmed : ∀ q ∈ l.travel ++ l.span, q.seq = seq → q.committed = true ∨ q.gateArrival = none) :
    l.awaitingArrival seq = none := by
  refine Option.eq_none_iff_forall_ne_some.2 fun p awaiting => ?_
  obtain ⟨found, armed⟩ := Option.filter_eq_some_iff.1 awaiting
  have place : p ∈ l.travel ++ l.span ∧ p.seq = seq ∧ p.committed = false := by
    cases travel : findSeq seq l.travel with
    | some q =>
      rw [travel] at found
      cases found
      obtain ⟨mem, rest⟩ := findSeq_some travel
      exact ⟨List.mem_append_left _ mem, rest⟩
    | none =>
      rw [travel] at found
      obtain ⟨mem, rest⟩ := findSeq_some found
      exact ⟨List.mem_append_right _ mem, rest⟩
  obtain ⟨mem, named, uncommitted⟩ := place
  rcases unarmed p mem named with h | h
  · rw [h] at uncommitted
    cases uncommitted
  · simp [Passage.arrivalArmed, h] at armed

end

section

variable {s : State} {i : LaneId} {seq : Nat}

theorem exec_gateArrival_of_awaiting {p : Passage} {due : Tick} (running : (s.lane i).state = .running)
    (awaiting : (s.lane i).awaitingArrival seq = some p) (armed : p.gateArrival = some due) :
    exec (.gateArrival i seq) s = finish (State.arrive i seq (s.reach due)) := by
  show finish (s.expire _ _) = _
  rw [Lane.arrivalDue, if_pos running, awaiting, Option.bind_some, armed]
  rfl

theorem exec_gateArrival_idle (h : (s.lane i).state ≠ .running ∨ (s.lane i).awaitingArrival seq = none) :
    exec (.gateArrival i seq) s = finish s := by
  have none_ : (s.lane i).arrivalDue seq = none := by
    unfold Lane.arrivalDue
    split
    next running => rw [h.resolve_left (not_not_intro running)]; rfl
    next => rfl
  show finish (s.expire _ _) = _
  rw [none_]
  rfl

theorem State.met_iff {p : Passage} {d : Disposition} (disposition : p.disposition = some d) :
    s.met i p = true ↔ (s.lane i).diverter.step = none
      ∧ (s.lane i).diverter.position = sidePosition (s.laneSettings i).throwSteps d.side := by
  simp [State.met, disposition, Diverter.atRest]

/-- A fault after a change of the lane that raised a flag is one change and one joining. -/
theorem State.laneFault_raised {f k : Lane → Lane} {r : HoldReason}
    (service : (f (s.lane i)).state = .homing ∨ (f (s.lane i)).state = .running)
    (holds : (f (s.lane i)).holds = HoldSet.empty) (other : r ≠ .cancelled)
    (same : Lane.heldBy r (f (s.lane i)) = Lane.heldBy r (k (s.lane i))) :
    (State.join (.lane i) (s.modLane i f)).laneFault i r =
      State.settleIfClosing i (State.join (.lane i) (s.modLane i fun l => Lane.heldBy r (k l))) := by
  rw [State.laneFault_eq (by simpa using service) (by simp [holds]) other, State.modLane_join, State.join_join]
  exact congrArg (fun u => State.settleIfClosing i (State.join _ u)) (State.modLane_twice same)

/-- A record that is not met leaves both lists, and its lane is held. -/
theorem State.misroute_eq {p : Passage} (running : (s.lane i).state = .running)
    (holds : (s.lane i).holds = HoldSet.empty) :
    s.misroute i p = State.settleIfClosing i (State.join (.lane i) (s.modLane i fun l => Lane.heldBy .lateDivert { l with
      span := dropSeq p.seq l.span
      travel := dropSeq p.seq l.travel
      docket := l.docket.map fun d => { d.releaseRecord p with misrouted := min 65535 (d.misrouted + 1) }
      flags := { l.flags with misrouted := true } })) := by
  rw [State.misroute, State.raiseLane_eq, State.modDocket, State.modLane_modLane, State.modLane_modLane]
  exact State.laneFault_raised (.inr running) holds (by decide) rfl

theorem State.arrive_travel {p : Passage} (found : findSeq seq (s.lane i).travel = some p) :
    s.arrive i seq = if s.met i p then s.commitRecord i p else s.misroute i p := by
  rw [State.arrive, found]

theorem State.arrive_span {p : Passage} (none_ : findSeq seq (s.lane i).travel = none)
    (found : findSeq seq (s.lane i).span = some p) : s.arrive i seq = s.misroute i p := by
  rw [State.arrive, none_]
  simp only [found]

theorem State.commitRecord_eq {p : Passage} : s.commitRecord i p =
    if p.disposition.map Disposition.side = some .accept then
      State.join (.lane i) (s.modLane i fun l => { l with
        travel := commitSeq p.seq l.travel
        docket := l.docket.map (Docket.count p)
        flags := { l.flags with commit := true } })
    else s.modLane i fun l => { l with travel := commitSeq p.seq l.travel, docket := l.docket.map (Docket.count p) } := by
  unfold State.commitRecord State.modDocket
  refine if_congr Iff.rfl ?_ (State.modLane_twice rfl)
  rw [State.raiseLane_eq, State.modLane_modLane]
  exact congrArg (State.join _) (State.modLane_twice rfl)

theorem Docket.count_accept {p : Passage} {ty k n : Nat} {c : Condition} (accepted : p.disposition = some (.accept ty c k))
    (entry : p.entry = some n) : Docket.count p = Docket.commit n := by
  funext d
  simp only [Docket.count, accepted, entry]

theorem Docket.count_refuse {p : Passage} {r : RefuseReason} (refused : p.disposition = some (.refuse r)) :
    Docket.count p = fun d => { d with refused := min 65535 (d.refused + 1) } := by
  funext d
  simp only [Docket.count, refused]
  rfl

/-! ### Gate clear (R50, R89) -/

/-- A move changes nothing of its lane but the diverter. -/
theorem State.tryMove_lane (i : LaneId) (s : State) : ∃ v, (s.tryMove i).lane i = { s.lane i with diverter := v } := by
  unfold State.tryMove
  dsimp only
  split
  · split
    · exact ⟨_, State.lane_modDiverter_self _ _ _⟩
    · exact ⟨_, rfl⟩
  · exact ⟨_, rfl⟩

theorem exec_gateClear_of_found {p : Passage} {due : Tick} (running : (s.lane i).state = .running)
    (found : findCommitted seq (s.lane i).travel = some p) (armed : p.gateClear = some due) :
    exec (.gateClear i seq) s = finish (State.clearGate i seq (s.reach due)) := by
  show finish (s.expire _ _) = _
  rw [Lane.clearDue, if_pos running, found, Option.bind_some, armed]
  rfl

theorem exec_gateClear_idle (h : (s.lane i).state ≠ .running
    ∨ ∀ q ∈ (s.lane i).travel, q.seq = seq → q.committed = false ∨ q.gateClear = none) :
    exec (.gateClear i seq) s = finish s := by
  have none_ : (s.lane i).clearDue seq = none := by
    unfold Lane.clearDue
    split
    next running =>
      refine Option.bind_eq_none_iff.2 fun p found => ?_
      obtain ⟨mem, named, committed⟩ := findCommitted_some found
      refine (h.resolve_left (not_not_intro running) p mem named).resolve_left ?_
      rw [committed]
      exact nofun
    next => rfl
  show finish (s.expire _ _) = _
  rw [none_]
  rfl

theorem State.settleIfDrained_drained (clear : (s.lane i).clear = true)
    (closing : (s.lane i).docket.map Docket.state = some .closing) : s.settleIfDrained i = s.settleDocket i :=
  (if_pos clear).trans (if_pos closing)

theorem State.settleIfDrained_not (h : (s.lane i).clear = false ∨ (s.lane i).docket.map Docket.state ≠ some .closing) :
    s.settleIfDrained i = s := by
  unfold State.settleIfDrained State.settleIfClosing
  rcases h with clear | closing
  · rw [if_neg (by simp [clear])]
  · rw [if_neg closing, ite_self]

end

/-- Settles O27: the record a gate event names is found in its list, and the paddle decides what becomes of it. -/
theorem gateArrivalAndClear : Obligations.GateArrivalAndClear := by
  refine ⟨fun i seq due s => ⟨fun idle => exec_gateArrival_idle (.inl idle), fun running =>
    ⟨fun xs p ys travel before named uncommitted armed => ?_, fun xs p ys span before named uncommitted armed entry others
      holds => ?_, fun none_ => exec_gateArrival_idle (.inr ?_), Lane.awaitingArrival_eq_none⟩⟩,
    fun i seq s => ⟨fun xs p ys due running travel before named committed armed => ?_, exec_gateClear_idle⟩⟩
  · subst named
    have found : findSeq p.seq (s.lane i).travel = some p := by rw [travel, findSeq_at before rfl uncommitted]
    have arrives : exec (.gateArrival i p.seq) s = finish
        (if (s.reach due).met i p then (s.reach due).commitRecord i p else (s.reach due).misroute i p) := by
      rw [exec_gateArrival_of_awaiting running (Lane.awaitingArrival_travel found armed) armed,
        State.arrive_travel (by simpa using found)]
    have committed : commitSeq p.seq (s.lane i).travel = xs ++ { p with committed := true } :: ys := by
      rw [travel, commitSeq_at before rfl uncommitted]
    refine ⟨fun ty c k n disposition entry still home => ?_, fun r disposition still away => ?_,
      fun d disposition holds others missed => ?_⟩
    · rw [arrives, if_pos ((State.met_iff disposition).2 (by simpa [Disposition.side, sidePosition] using ⟨still, home⟩)),
        State.commitRecord_eq, if_pos (by rw [disposition]; rfl)]
      refine congrArg (fun u => finish (State.join _ u)) (State.modLane_congr ?_)
      rw [State.reach_lane, committed, Docket.count_accept disposition entry]
    · rw [arrives, if_pos ((State.met_iff disposition).2 (by simpa [Disposition.side, sidePosition] using ⟨still, away⟩)),
        State.commitRecord_eq, if_neg (by simp [disposition, Disposition.side])]
      refine congrArg finish (State.modLane_congr ?_)
      rw [State.reach_lane, committed, Docket.count_refuse disposition]
    · have missed : ¬ (s.reach due).met i p = true := by
        rw [State.met_iff disposition]
        rintro ⟨still, at_⟩
        rw [State.reach_lane] at still at_
        refine missed.elim (· still) (· ?_)
        rw [State.reach_laneSettings] at at_
        cases d <;> exact at_
      rw [arrives, if_neg missed, State.misroute_eq (by simpa using running) (by simpa using holds)]
      refine congrArg (fun u => finish (State.settleIfClosing i (State.join _ u))) (State.modLane_congr ?_)
      simp [dropSeq_eq_self others, travel, dropSeq_at before rfl uncommitted]
  · subst named
    have found : findSeq p.seq (s.lane i).span = some p := by rw [span, findSeq_at before rfl uncommitted]
    rw [exec_gateArrival_of_awaiting running (Lane.awaitingArrival_span (findSeq_eq_none others) found armed) armed,
      State.arrive_span (by simpa using findSeq_eq_none others) (by simpa using found),
      State.misroute_eq (by simpa using running) (by simpa using holds)]
    refine congrArg (fun u => finish (State.settleIfClosing i (State.join _ u))) (State.modLane_congr ?_)
    simp [dropSeq_eq_self others, span, dropSeq_at before rfl uncommitted, Docket.releaseRecord, entry]
  · rcases none_ with others | none_
    · exact Lane.awaitingArrival_eq_none fun q hq named => absurd named (others q hq)
    · exact none_
  · subst named
    intro moved
    have found : findCommitted p.seq (s.lane i).travel = some p := by rw [travel, findCommitted_at before rfl committed]
    have clears : exec (.gateClear i p.seq) s = finish (moved.settleIfDrained i) := by
      rw [exec_gateClear_of_found running found armed]
      refine congrArg (fun u => finish (State.settleIfDrained i (State.tryMove i u))) (State.modLane_congr ?_)
      rw [State.reach_lane, travel, eraseP_at (fun q hq => ?_) (by simp [committed])]
      by_cases h : q.seq = p.seq
      · simp [before q hq h]
      · simp [h]
    obtain ⟨v, lane⟩ := State.tryMove_lane i ((s.reach due).modLane i fun l => { l with travel := xs ++ ys })
    rw [State.lane_modLane_self, State.reach_lane] at lane
    have clear : (moved.lane i).clear = true ↔ xs ++ ys = [] ∧ (s.lane i).span = [] := by
      rw [show moved.lane i = _ from lane, Lane.clear_iff]
      exact and_comm
    have docket : (moved.lane i).docket = (s.lane i).docket := by rw [show moved.lane i = _ from lane]
    refine ⟨fun travel span closing => ?_, fun busy => ?_⟩
    · rw [clears, State.settleIfDrained_drained (clear.2 ⟨travel, span⟩) (by rw [docket, closing])]
      rfl
    · rw [clears, State.settleIfDrained_not]
      · rfl
      · rw [docket, ← Bool.not_eq_true, clear]
        tauto

end Sys2Proof.Machine
end


section
/-! PROOF. The requests that change a lane or open, close and cancel its docket (R20, R62, R63, R75, R76, R88, R92). -/

namespace Sys2Proof.Machine

/-! ### A request decided by its block -/

section

variable {s t : State} {st : Status} {payload : List Byte}

theorem exec_laneHold {lane : Nat} (free : s.free) (started : s.part.state ≠ .starting)
    (decided : decideLaneHold lane s.heard = (t, ⟨st, payload⟩)) :
    exec (.laneHold lane) s = .next (t.answered (.laneHold lane) st payload).transmit :=
  exec_of_decided rfl free rfl (PartState.takes_of started nofun nofun nofun nofun) decided

theorem exec_laneRelease {lane : Nat} (free : s.free) (started : s.part.state ≠ .starting)
    (decided : decideLaneRelease lane s.heard = (t, ⟨st, payload⟩)) :
    exec (.laneRelease lane) s = .next (t.answered (.laneRelease lane) st payload).transmit :=
  exec_of_decided rfl free rfl (PartState.takes_of started nofun nofun nofun nofun) decided

theorem exec_laneTrim {lane : Nat} {steps : Int} (free : s.free) (started : s.part.state ≠ .starting)
    (decided : decideLaneTrim lane steps s.heard = (t, ⟨st, payload⟩)) :
    exec (.laneTrim lane steps) s = .next (t.answered (.laneTrim lane steps) st payload).transmit :=
  exec_of_decided rfl free rfl (PartState.takes_of started nofun nofun nofun nofun) decided

theorem exec_docketClose {lane : Nat} (free : s.free) (started : s.part.state ≠ .starting)
    (decided : decideDocketClose lane s.heard = (t, ⟨st, payload⟩)) :
    exec (.docketClose lane) s = .next (t.answered (.docketClose lane) st payload).transmit :=
  exec_of_decided rfl free rfl (PartState.takes_of started nofun nofun nofun nofun) decided

theorem exec_docketCancel {lane : Nat} (free : s.free) (started : s.part.state ≠ .starting)
    (decided : decideDocketCancel lane s.heard = (t, ⟨st, payload⟩)) :
    exec (.docketCancel lane) s = .next (t.answered (.docketCancel lane) st payload).transmit :=
  exec_of_decided rfl free rfl (PartState.takes_of started nofun nofun nofun nofun) decided

theorem exec_docketOpen {lane account method : Nat} (free : s.free) (opened : s.part.state = .opened)
    (decided : decideDocketOpen lane account method s.heard = (t, ⟨st, payload⟩)) :
    exec (.docketOpen lane account method) s = .next (t.answered (.docketOpen lane account method) st payload).transmit :=
  exec_of_decided rfl free rfl (by rw [opened]; rfl) decided

end

/-! ### Holding (R62) -/

section

variable {s : State} {i : LaneId} {lane : Nat}

/-- Entry to HELD for another reason than a cancel is the hold, and settling follows. -/
theorem State.enterHeld_eq {r : HoldReason} (other : r ≠ .cancelled) (new : (s.lane i).holds.has r = false) :
    s.enterHeld i r = State.settleIfClosing i (State.join (.lane i) (s.modLane i (Lane.heldBy r))) := by
  rw [State.enterHeld, State.holdLane_eq new, if_neg other]

/-- Settling leaves a held lane held, for the same reasons. -/
theorem State.held_settleIfClosing (held : (s.lane i).state = .held) :
    ((s.settleIfClosing i).lane i).state = .held ∧ ((s.settleIfClosing i).lane i).holds = (s.lane i).holds := by
  unfold State.settleIfClosing
  split
  next closing =>
    obtain ⟨d, docket, -⟩ := Option.map_eq_some_iff.1 closing
    rw [State.lane_settleDocket docket, if_pos rfl]
    simp [Lane.settled, Lane.afterSettlement, held]
  next => exact ⟨held, rfl⟩

theorem heldReply_eq {h : HoldSet} (held : (s.lane i).state = .held) (holds : (s.lane i).holds = h) :
    heldReply i s = (s, ⟨.ok, [3, byteOf (h.crowded.toNat + 2 * h.strayAtB.toNat + 4 * h.jam.toNat + 8 * h.lateDivert.toNat
      + 16 * h.diverterHome.toNat + 32 * h.requested.toNat + 64 * h.cancelled.toNat)]⟩) := by
  rw [heldReply, held, holds, holdByte_eq]
  rfl

theorem decideLaneHold_of_lane : decideLaneHold i.val s = match (s.lane i).state with
    | .off => refuse s .noDocket
    | .homing | .running => heldReply i (s.enterHeld i .requested)
    | .held => heldReply i (s.addHold i .requested) := by
  rw [decideLaneHold, laneOf_val] <;> rfl

theorem decideLaneHold_service (service : (s.lane i).state = .homing ∨ (s.lane i).state = .running)
    (holds : (s.lane i).holds = HoldSet.empty) :
    decideLaneHold i.val s =
      (State.settleIfClosing i (State.join (.lane i) (s.modLane i (Lane.heldBy .requested))), ⟨.ok, [3, 0x20]⟩) := by
  have entered : decideLaneHold i.val s = heldReply i (s.enterHeld i .requested) := by
    rw [decideLaneHold_of_lane]
    rcases service with h | h <;> rw [h]
  rw [entered, State.enterHeld_eq (by decide) (by rw [holds]; rfl)]
  obtain ⟨state, reasons⟩ := State.held_settleIfClosing (i := i)
    (s := State.join (.lane i) (s.modLane i (Lane.heldBy .requested))) (by simp [Lane.heldBy])
  rw [State.lane_join, State.lane_modLane_self] at reasons
  have only : (Lane.heldBy .requested (s.lane i)).holds = HoldSet.empty.add .requested := by rw [← holds]; rfl
  rw [heldReply_eq state (reasons.trans only)]
  rfl

theorem State.addHold_eq {r : HoldReason} (new : (s.lane i).holds.has r = false) :
    s.addHold i r = State.join (.lane i) (s.modLane i fun l => { l with
      holds := l.holds.add r, flags := { l.flags with held := true } }) := by
  rw [State.addHold, if_neg (by simp [new]), State.raiseLane_eq]
  exact congrArg (State.join _) (State.modLane_twice rfl)

/-! ### Releasing (R63) -/

/-- The lane's state after its entry to HOMING is told by the level DIV_HOME's filter has accepted. -/
theorem State.state_startHoming : ((s.startHoming i).lane i).state =
    if ((s.settleHome i s.tick).lane i).diverter.home.level = true then .running else .homing := by
  rw [State.startHoming]
  split
  next home => rw [State.beginHoming_found home, State.homeFound_modLane, State.lane_modLane_self]
  next home =>
    rw [State.beginHoming_away (by simpa using home), State.beginStep_modLane, State.lane_modLane_self]
    rfl

/-- The lane as an accepted LANE_RELEASE leaves it before it moves on. -/
def State.released (i : LaneId) (s : State) : State :=
  State.join (.lane i) (s.modLane i fun l => { l with holds := HoldSet.empty, flags := { l.flags with released := true } })

theorem State.release_eq : s.release i = if (s.lane i).docket.isSome then (s.released i).startHoming i
    else (s.released i).modLane i fun l => { l with state := .off } := by
  have released : (s.modLane i fun l => { l with holds := HoldSet.empty }).raiseLane i (fun f => { f with released := true })
      = s.released i := by
    rw [State.raiseLane_eq]
    exact congrArg (State.join _) (State.modLane_twice rfl)
  rw [State.release, released]

theorem decideLaneRelease_other (other : (s.lane i).state ≠ .held) : decideLaneRelease i.val s = refuse s .badState := by
  rw [decideLaneRelease, laneOf_val]
  exact if_pos other

section

variable (held : (s.lane i).state = .held)

include held

theorem decideLaneRelease_blocked (blocked : (s.lane i).beamsBlocked = true) :
    decideLaneRelease i.val s = refuse s .beamsBlocked := by
  rw [decideLaneRelease, laneOf_val]
  exact (if_neg (not_not_intro held)).trans (if_pos blocked)

variable (clear : (s.lane i).beamsBlocked = false)

include clear

theorem decideLaneRelease_accepted :
    decideLaneRelease i.val s = answerOk (s.release i) (b1 ((s.release i).lane i).state.code) := by
  rw [decideLaneRelease, laneOf_val]
  exact (if_neg (not_not_intro held)).trans (if_neg (by simp [clear]))

theorem decideLaneRelease_off (docket : (s.lane i).docket = none) :
    decideLaneRelease i.val s = answerOk ((s.released i).modLane i fun l => { l with state := .off }) [0] := by
  rw [decideLaneRelease_accepted held clear, State.release_eq, if_neg (by simp [docket]), State.lane_modLane_self]
  rfl

theorem decideLaneRelease_homing (docket : (s.lane i).docket ≠ none) :
    decideLaneRelease i.val s = answerOk ((s.released i).startHoming i)
      [if ((s.settleHome i s.tick).lane i).diverter.home.level = true then 2 else 1] := by
  have level : (((s.released i).settleHome i (s.released i).tick).lane i).diverter
      = ((s.settleHome i s.tick).lane i).diverter := by
    rw [State.settleHome, State.lane_modDiverter_self, State.settleHome, State.lane_modDiverter_self, State.released,
      State.lane_join, State.lane_modLane_self]
    rfl
  rw [decideLaneRelease_accepted held clear, State.release_eq, if_pos (Option.isSome_iff_ne_none.2 docket),
    State.state_startHoming, level]
  refine congrArg (answerOk _) ?_
  split <;> rfl

end

/-! ### Trim (R20) -/

theorem clampTrim_eq (x : Int) : clampTrim x = if 63 < x then 63 else if x < -63 then -63 else x := by
  unfold clampTrim
  split
  · omega
  · split <;> omega

theorem decideLaneTrim_of_lane {steps : Int} (low : -63 ≤ steps) (high : steps ≤ 63) : decideLaneTrim i.val steps s =
    if s.part.save.isSome then refuse s .busy
    else answerOk { s with settings := s.settings.modLane i fun g =>
      { g with trim := clampTrim ((s.laneSettings i).trim + steps) } } (signed1 (clampTrim ((s.laneSettings i).trim + steps))) := by
  rw [decideLaneTrim, laneOf_val]
  exact if_neg (by omega)

end

/-- Settles O36, request by request, each refusal and each accepted case in the order of its table. -/
theorem laneHoldReleaseAndTrim : Obligations.LaneHoldReleaseAndTrim := by
  refine ⟨fun lane s free started => ⟨fun none_ => ⟨exec_laneHold free started (by rw [decideLaneHold, laneOf_none none_]; rfl),
      exec_laneRelease free started (by rw [decideLaneRelease, laneOf_none none_]; rfl)⟩, ?_⟩,
    fun lane steps s free started => ⟨fun bad => exec_laneTrim free started ?_, ?_⟩⟩
  · rintro i rfl
    refine ⟨fun off => exec_laneHold free started (by rw [decideLaneHold_of_lane, State.heard_lane, off]; rfl),
      fun service holds => exec_laneHold free started (decideLaneHold_service service holds),
      fun held => ⟨fun requested => exec_laneHold free started ?_, fun requested => exec_laneHold free started ?_⟩,
      fun other => exec_laneRelease free started (decideLaneRelease_other other),
      fun held blocked => exec_laneRelease free started
        (decideLaneRelease_blocked held (by simpa [Lane.beamsBlocked] using blocked)), fun held aClear bClear => ?_⟩
    · rw [decideLaneHold_of_lane, State.heard_lane, held]
      refine (congrArg (heldReply i) (if_pos (show (s.heard.lane i).holds.has .requested = true from requested))).trans ?_
      rw [heldReply_eq (s := s.heard) held rfl, State.heard_lane, requested]
      rfl
    · rw [decideLaneHold_of_lane, State.heard_lane, held]
      refine (congrArg (heldReply i)
        (State.addHold_eq (show (s.heard.lane i).holds.has .requested = false from requested))).trans ?_
      rw [heldReply_eq (by simpa using held) (by rw [State.lane_join, State.lane_modLane_self])]
      rfl
    · have clear : (s.heard.lane i).beamsBlocked = false := by simp [Lane.beamsBlocked, aClear, bClear]
      refine ⟨fun docket => exec_laneRelease free started (decideLaneRelease_off held clear docket),
        fun docket => exec_laneRelease free started ((decideLaneRelease_homing (s := s.heard) held clear docket).trans ?_)⟩
      rw [State.settleHome, State.lane_modDiverter_self]
      rfl
  · by_cases lane_ : 4 ≤ lane
    · rw [decideLaneTrim, laneOf_none lane_]
      rfl
    · have trim : decideLaneTrim lane steps s.heard = refuse s.heard .range := by
        rw [decideLaneTrim, show laneOf lane = some ⟨lane, by omega⟩ from laneOf_val ⟨lane, by omega⟩]
        exact if_pos (bad.resolve_left lane_)
      exact trim
  · rintro i rfl low high
    refine ⟨fun saving => exec_laneTrim free started ?_, fun idle => exec_laneTrim free started ?_⟩
    · rw [decideLaneTrim_of_lane low high]
      exact if_pos (Option.isSome_iff_ne_none.2 saving)
    · rw [decideLaneTrim_of_lane low high, clampTrim_eq]
      exact if_neg (by simp [idle])

/-! ### Closing and cancelling (R88, R92) -/

section

variable {s : State} {i : LaneId} {d : Docket}

theorem decideDocketClose_of_docket (docket : (s.lane i).docket = some d) : decideDocketClose i.val s =
    if d.state = .closing then (s, ⟨.badState, 2 :: le2 d.number⟩)
    else answerOk (s.closeDocket i .request) ((if (s.lane i).clear then 3 else 2) :: le2 d.number) := by
  rw [decideDocketClose, laneOf_val]
  simp only [docket]
  refine if_congr Iff.rfl rfl (congrArg (answerOk _) ?_)
  split <;> rfl

theorem decideDocketCancel_of_docket (docket : (s.lane i).docket = some d) :
    decideDocketCancel i.val s = answerOk (s.cancelDocket i d) (le2 d.number) := by
  rw [decideDocketCancel, laneOf_val]
  simp only [docket]

theorem State.closed_eq {c : CloseCause} (docket : (s.lane i).docket = some d) :
    s.modLane i (Lane.close c) = s.modLane i fun l => { l with
      docket := some { d with state := .closing, closeCause := some c }, quietTimer := none, autoCloseTimer := none } :=
  State.modLane_congr (by simp [Lane.close, docket])

theorem State.cancelHold_service (service : (s.lane i).state = .homing ∨ (s.lane i).state = .running)
    (holds : (s.lane i).holds = HoldSet.empty) :
    s.cancelHold i = State.join (.lane i) (s.modLane i (Lane.heldBy .cancelled)) := by
  have held : s.cancelHold i = s.enterHeld i .cancelled := by
    unfold State.cancelHold
    rcases service with h | h <;> rw [h]
  rw [held, State.enterHeld, State.holdLane_eq (by rw [holds]; rfl), if_pos rfl]

theorem State.cancelHold_held (held : (s.lane i).state = .held) : s.cancelHold i = s.addHold i .cancelled := by
  rw [State.cancelHold, held]

end

/-- Settles O35: the refusals, then what closing or cancelling leaves of the docket and the lane. -/
theorem docketClosesOrIsCancelled : Obligations.DocketClosesOrIsCancelled := by
  refine ⟨fun lane s free started =>
      ⟨fun none_ => exec_docketClose free started (by rw [decideDocketClose, laneOf_none none_]; rfl), ?_⟩,
    fun lane s free started =>
      ⟨fun none_ => exec_docketCancel free started (by rw [decideDocketCancel, laneOf_none none_]; rfl), ?_⟩⟩
  · rintro i rfl
    refine ⟨fun docket => exec_docketClose free started ?_, fun d docket => ⟨fun closing => exec_docketClose free started ?_,
      fun open_ => ⟨fun span travel => exec_docketClose free started ?_, fun busy => exec_docketClose free started ?_⟩⟩⟩
    · rw [decideDocketClose, laneOf_val]
      simp only [State.heard_lane, docket]
      rfl
    · exact (decideDocketClose_of_docket (s := s.heard) docket).trans (if_pos closing)
    · refine ((decideDocketClose_of_docket (s := s.heard) docket).trans (if_neg open_)).trans ?_
      rw [State.closeDocket_clear (s := s.heard) span travel, State.closed_eq (s := s.heard) docket,
        if_pos (show (s.heard.lane i).clear = true from Lane.clear_iff.2 ⟨span, travel⟩)]
      rfl
    · refine ((decideDocketClose_of_docket (s := s.heard) docket).trans (if_neg open_)).trans ?_
      rw [State.closeDocket_busy (s := s.heard) busy, State.closed_eq (s := s.heard) docket, if_neg]
      · rfl
      · rw [Lane.clear_iff]
        rintro ⟨span, travel⟩
        exact busy.elim (· span) (· travel)
  · rintro i rfl
    refine ⟨fun docket => exec_docketCancel free started ?_, fun d docket =>
      ⟨fun service holds => exec_docketCancel free started ?_, fun held new => exec_docketCancel free started ?_⟩⟩
    · rw [decideDocketCancel, laneOf_val]
      simp only [State.heard_lane, docket]
      rfl
    · rw [decideDocketCancel_of_docket (s := s.heard) docket, State.cancelDocket,
        State.cancelHold_service (s := s.heard) service holds, State.modLane_join, State.modLane_modLane]
      rfl
    · rw [decideDocketCancel_of_docket (s := s.heard) docket, State.cancelDocket,
        State.cancelHold_held (s := s.heard) held, State.addHold_eq (s := s.heard) (r := .cancelled) new, State.modLane_join,
        State.modLane_modLane]
      rfl

/-! ### Opening (R75, R76) -/

section

variable {s : State} {i : LaneId} {account : Nat} {m : Method}

theorem openRefusal_eq (slot : Option Account) (m : Method) (p : Pressure) : openRefusal slot m p =
    if slot = none then some .notFound
    else if slot.any Account.suspended then some .suspended
    else if m = .cash ∧ slot.any (!·.cash) ∨ m = .voucher ∧ slot.any (!·.voucher) then some .notPermitted
    else if m ≠ .account ∧ p = .high then some .payoutBusy
    else none := by
  cases slot with
  | none => rfl
  | some a => cases m <;> cases h : a.suspended <;> simp [openRefusal, h, Method.pay?, Account.permits]

theorem decideDocketOpen_of_lane (opened : s.part.state = .opened) (range : account < 64) :
    decideDocketOpen i.val account m.code s =
      if (s.lane i).docket.isSome then refuse s .hasDocket
      else if (s.lane i).state ≠ .off ∨ ¬ (s.laneSettings i).enable then refuse s .badState
      else match openRefusal (s.account account) m s.queue.pressure with
        | some st => refuse s st
        | none =>
          if (s.lane i).beamsBlocked then refuse s .beamsBlocked
          else answerOk (s.openDocket i account m) (le2 s.docketNumber) := by
  have code : Method.ofCode m.code = some m := by cases m <;> rfl
  rw [decideDocketOpen, if_neg (not_not_intro opened), laneOf_val, code]
  exact if_neg (not_not_intro range)

/-- The status with which DOCKET_OPEN is refused past its range checks, if any (R75). -/
def State.openRefusal (s : State) (i : LaneId) (account : Nat) (m : Method) : Option Status :=
  if (s.lane i).docket.isSome then some .hasDocket
  else if (s.lane i).state ≠ .off ∨ (s.laneSettings i).enable = false then some .badState
  else if s.account account = none then some .notFound
  else if (s.account account).any Account.suspended then some .suspended
  else if m = .cash ∧ (s.account account).any (!·.cash) ∨ m = .voucher ∧ (s.account account).any (!·.voucher) then
    some .notPermitted
  else if m ≠ .account ∧ s.queue.pressure = .high then some .payoutBusy
  else if (s.lane i).beamA.level = true ∨ (s.lane i).beamB.level = true then some .beamsBlocked
  else none

theorem decideDocketOpen_eq (opened : s.part.state = .opened) (range : account < 64) :
    decideDocketOpen i.val account m.code s =
      (s.openRefusal i account m).elim (answerOk (s.openDocket i account m) (le2 s.docketNumber)) (refuse s) := by
  have blocked : ((s.lane i).beamA.level = true ∨ (s.lane i).beamB.level = true) ↔ (s.lane i).beamsBlocked = true := by
    simp [Lane.beamsBlocked]
  rw [decideDocketOpen_of_lane opened range, openRefusal_eq, State.openRefusal]
  simp only [blocked, Bool.not_eq_true]
  split_ifs <;> rfl

end

/-- Settles O32: past the ranges the first condition of the table that holds refuses, and else the docket is made. -/
theorem docketOpens : Obligations.DocketOpens := by
  intro lane account method s free opened slot paid refused
  refine ⟨fun range => exec_docketOpen free opened ?_, ?_⟩
  · have bad : laneOf lane = none ∨ Method.ofCode method = none ∨ 64 ≤ account := by
      rcases range with h | h | h
      · exact .inl (laneOf_none h)
      · exact .inr (.inr h)
      · exact .inr (.inl (by match method, h with | n + 3, _ => rfl))
    unfold decideDocketOpen
    rw [if_neg (not_not_intro (show s.heard.part.state = .opened from opened))]
    split
    next i m lane_ method_ =>
      exact if_pos (Nat.not_lt.2 ((bad.resolve_left (by simp [lane_])).resolve_left (by simp [method_])))
    next => rfl
  · rintro i rfl range m method_
    have code : method = m.code := by rcases method_ with ⟨rfl, rfl⟩ | ⟨rfl, rfl⟩ | ⟨rfl, rfl⟩ <;> rfl
    subst code
    have cash : m.code = 0 ↔ m = .cash := by cases m <;> decide
    have voucher : m.code = 1 ↔ m = .voucher := by cases m <;> decide
    have paid_ : paid ↔ m ≠ .account := by cases m <;> simp [paid, Method.code]
    have refusal : refused i = s.heard.openRefusal i account m := by
      simp only [refused, paid_, cash, voucher]
      rfl
    have decided := decideDocketOpen_eq (s := s.heard) (i := i) (m := m) opened range
    refine ⟨fun st refused_ => exec_docketOpen free opened ?_, fun accepted => exec_docketOpen free opened ?_⟩
    · rw [decided, ← refusal, refused_]
      rfl
    · rw [decided, ← refusal, accepted]
      rfl

end Sys2Proof.Machine
end


section
/-! PROOF. The input lines, their filters and debounces on a tick (R1, R3, R143, R144), and the output lines and characters
(R38, R40, R55, R132, R145, R150, R160). -/

namespace Sys2Proof.Machine

/-! ### Filters and debounces (R1, R3, R143) -/

theorem majority_eq (a b c level : Bool) : majority a b c =
    if 2 ≤ ([a, b, c].filter fun x => x ≠ level).length then !level else level := by
  cases a <;> cases b <;> cases c <;> cases level <;> rfl

theorem DamageInput.sample_same {d : DamageInput} (same : d.line.sample.level = d.pressed) :
    d.sample = ⟨d.line.sample, d.pressed, 0⟩ := if_pos same

section

variable {d : DamageInput} (differs : d.line.sample.level ≠ d.pressed)

include differs

theorem DamageInput.sample_waits (short : d.held < 80) : d.sample = ⟨d.line.sample, d.pressed, d.held + 1⟩ :=
  (if_neg differs).trans (if_neg (Nat.not_le.2 short))

theorem DamageInput.sample_follows (long : 80 ≤ d.held) : d.sample = ⟨d.line.sample, !d.pressed, 0⟩ := by
  rw [← Bool.eq_not.2 differs]
  exact (if_neg differs).trans (if_pos long)

end

theorem SeatContact.sample_same {c : SeatContact} (same : c.pin = c.level) : c.sample = ⟨c.pin, c.level, 0⟩ := if_pos same

section

variable {c : SeatContact} (differs : c.pin ≠ c.level)

include differs

theorem SeatContact.sample_waits (short : c.held < 200) : c.sample = ⟨c.pin, c.level, c.held + 1⟩ :=
  (if_neg differs).trans (if_neg (Nat.not_le.2 short))

theorem SeatContact.sample_follows (long : 200 ≤ c.held) : c.sample = ⟨c.pin, c.pin, 0⟩ :=
  (if_neg differs).trans (if_pos long)

end

/-- A contact that shows the other level counts its ticks. -/
theorem SeatContact.sample_iterate (p : Bool) (n : Nat) (bound : n ≤ 200) :
    SeatContact.sample^[n] ⟨!p, p, 0⟩ = ⟨!p, p, n⟩ := by
  induction n with
  | zero => rfl
  | succ n ih =>
    rw [Function.iterate_succ_apply', ih (by omega)]
    exact SeatContact.sample_waits (Bool.not_ne_self p) bound

/-- A pressed button whose filter has followed counts its ticks. -/
theorem DamageInput.sample_iterate (p : Bool) (n : Nat) (bound : n ≤ 78) :
    DamageInput.sample^[n + 3] ⟨{ Line.steady p with pin := !p }, p, 0⟩ = ⟨Line.steady (!p), p, n + 2⟩ := by
  induction n with
  | zero => cases p <;> rfl
  | succ n ih =>
    rw [Nat.add_right_comm, Function.iterate_succ_apply', ih (by omega)]
    have steady : (Line.steady (!p)).sample = Line.steady (!p) := by cases p <;> rfl
    refine (DamageInput.sample_waits (d := ⟨Line.steady (!p), p, n + 2⟩) ?_ (show n + 2 < 80 by omega)).trans ?_
    · rw [steady]
      exact Bool.not_ne_self p
    · rw [steady]

theorem SeatContact.level_iterate (p : Bool) (n : Nat) (bound : n ≤ 201) :
    (SeatContact.sample^[n] ⟨!p, p, 0⟩).level = if n = 201 then !p else p := by
  split
  next last =>
    rw [last, Function.iterate_succ_apply', SeatContact.sample_iterate p 200 (by omega)]
    cases p <;> rfl
  next before => rw [SeatContact.sample_iterate p n (by omega)]

theorem DamageInput.pressed_iterate (p : Bool) (n : Nat) (bound : n ≤ 82) :
    (DamageInput.sample^[n] ⟨{ Line.steady p with pin := !p }, p, 0⟩).pressed = if n = 82 then !p else p := by
  match n with
  | 0 => rfl
  | 1 => cases p <;> rfl
  | 2 => cases p <;> rfl
  | n + 3 =>
    split
    next last =>
      rw [last, Function.iterate_succ_apply', DamageInput.sample_iterate p 78 (by omega)]
      cases p <;> rfl
    next before => rw [DamageInput.sample_iterate p n (by omega)]

/-! ### Edges on a tick and in a command (R1 to R4, R143, R144) -/

section

variable {s : State} {i : LaneId} {t : Tick}

theorem exec_edgeA {on : Bool} (level : (s.lane i).beamA.level = !on) :
    exec (if on then .aOn i t else .aOff i t) s = finish (State.edgeA i on
      ((s.at t).modLane i fun l => { l with beamA := Line.steady on })) := by
  have edge : finish ((s.at t).beamA i on) = _ := congrArg finish (State.beamA_edge (s := s.at t) level)
  cases on <;> exact edge

theorem exec_edgeB {on : Bool} (level : (s.lane i).beamB.level = !on) :
    exec (if on then .bOn i t else .bOff i t) s = finish (State.edgeB i on
      ((s.at t).modLane i fun l => { l with beamB := Line.steady on })) := by
  have edge : finish ((s.at t).beamB i on) = _ := congrArg finish (State.beamB_edge (s := s.at t) level)
  cases on <;> exact edge

theorem exec_damagePress_of_released (released : (s.lane i).damage.pressed = false) :
    exec (.damagePress i t) s = finish (State.press i
      ((s.at t).modLane i fun l => { l with damage := DamageInput.steady true })) :=
  congrArg finish (if_neg (by simp [released]))

end

section

variable {s : State} {b : BayId}

theorem exec_seatChange {contact : Fin 2} {closed k1 k2 : Bool} {t : Tick}
    (changed : (s.bay b).contact contact = !closed) :
    exec (.seatChange b contact closed k1 k2 t) s = finish (State.followSeats b (s.bay b).seated
      ((s.at t).modBay b (Bay.setContact contact closed k1 k2))) :=
  congrArg finish (if_neg (by rw [State.bay_at, changed]; exact Bool.not_ne_self closed))

/-! ### A module's levels (R144, R146, R147, R149, R151) -/

theorem State.moduleLevels_starting (starting : (s.bay b).state = .starting) : s.moduleLevels b = s.startingLevels b := by
  rw [State.moduleLevels, starting]

theorem State.moduleLevels_served (served : (s.bay b).state = .ready ∨ (s.bay b).state = .serving ∨ (s.bay b).state = .stopping) :
    s.moduleLevels b = if (s.bay b).modFault.level then s.moduleFails b .moduleFault
      else if (s.bay b).modReady.level then s else s.moduleFails b .readyLost := by
  unfold State.moduleLevels
  rcases served with h | h | h <;> rw [h]

theorem State.moduleLevels_other
    (served : ¬ ((s.bay b).state = .ready ∨ (s.bay b).state = .serving ∨ (s.bay b).state = .stopping))
    (starting : (s.bay b).state ≠ .starting) : s.moduleLevels b = s := by
  unfold State.moduleLevels
  split <;> simp_all

theorem State.moduleFails_starting {c : FaultCause} (starting : (s.bay b).state = .starting) :
    s.moduleFails b c = s.enterFault b c := by
  rw [State.moduleFails, starting]

/-- A level command that tells the level the line has. -/
theorem State.at_modBay_self {f : Bay → Bay} (same : f (s.bay b) = s.bay b) : (s.at s.tick).modBay b f = s :=
  State.modBay_eq_self same

end

/-- Settles O17: each filter by its cases, and each accepted edge against its command. -/
theorem inputLinesAreFiltered : Obligations.InputLinesAreFiltered := by
  refine ⟨fun l => ?_, fun b => ?_, fun d => ⟨DamageInput.sample_same, DamageInput.sample_waits, DamageInput.sample_follows⟩,
    fun c => ⟨SeatContact.sample_same, SeatContact.sample_waits, SeatContact.sample_follows⟩,
    fun p n => ⟨DamageInput.pressed_iterate p n, SeatContact.level_iterate p n⟩, fun i s => ?_, fun b s => ?_⟩
  · rw [Line.sample, majority_eq _ _ _ l.level]
  · cases b <;> decide
  · intro old new u neck press
    have neck_ : (new.neck.level && !old.neck.level) = true ↔ neck := by
      rw [Bool.and_eq_true, Bool.not_eq_true']
      exact and_comm
    have press_ : (new.damage.pressed && !old.damage.pressed) = true ↔ press := by
      rw [Bool.and_eq_true, Bool.not_eq_true']
      exact and_comm
    have sampled : s.sampleLane i =
        (let a := if new.beamA.level = old.beamA.level then u else u.edgeA i new.beamA.level
         let b := if new.beamB.level = old.beamB.level then a else a.edgeB i new.beamB.level
         let c := if neck then b.edgeNeck i else b
         if press then c.press i else c) := by
      simp only [← neck_, ← press_]
      rfl
    refine ⟨rfl, ?_, ?_, ?_, ?_, ?_, fun t on => ⟨exec_edgeA, exec_edgeB,
      congrArg finish State.neckBlocked_eq, exec_damagePress_of_released⟩⟩
    all_goals
      intro a b n p
      rw [sampled]
      simp only [a, b, n, p, if_true, if_false]
  · intro old new u was seat unit
    have unit_ : (new.unitDone.level && !old.unitDone.level) = true ↔ unit := by
      rw [Bool.and_eq_true, Bool.not_eq_true']
      exact and_comm
    have seat_ : (new.seat1.level = old.seat1.level ∧ new.seat2.level = old.seat2.level) ↔ ¬ seat := by
      simp only [seat, not_or, not_not, ne_eq]
    have sampled : s.sampleBay b =
        (let x := if ¬ seat then u else u.followSeats b was
         let y := if unit then x.confirmation b else x
         y.moduleLevels b) := by
      simp only [← unit_, ← seat_]
      rfl
    refine ⟨rfl, fun seat unit => ?_, fun seat unit => ?_, fun seat unit => ?_, fun t => rfl, fun t c1 k1 k2 changed => ?_,
      fun t c2 k1 k2 changed => ?_, fun r f ready fault => ?_⟩
    iterate 3
      · rw [sampled]
        simp only [seat, unit, if_true, if_false, not_true_eq_false, not_false_eq_true]
    · exact exec_seatChange changed
    · exact exec_seatChange changed
    · have faulty (h : f = true) : (s.bay b).modFault = Line.steady true := by rw [← h]; exact fault
      have readied (h : r = true) : (s.bay b).modReady = Line.steady true := by rw [← h]; exact ready
      have lost (h : r = false) : (s.bay b).modReady = Line.steady false := by rw [← h]; exact ready
      have faultLevel : (s.bay b).modFault.level = f := by rw [show (s.bay b).modFault = Line.steady f from fault]; rfl
      have readyLevel : (s.bay b).modReady.level = r := by rw [show (s.bay b).modReady = Line.steady r from ready]; rfl
      have starts (h : (s.bay b).state = .starting) := State.moduleLevels_starting (s := s) h
      intro served
      have serves (h : served) := State.moduleLevels_served (s := s) h
      refine ⟨fun state asserted => ?_, fun state quiet released => ?_, fun state quiet asserted => ?_,
        fun state quiet asserted => ?_, fun state quiet released => ?_, State.moduleLevels_other⟩
      · refine congrArg finish ((congrArg (State.moduleFails b .moduleFault)
          (State.at_modBay_self (by rw [← faulty asserted]))).trans ?_)
        rcases state with state | state
        · rw [serves state, faultLevel, if_pos asserted]
        · rw [starts state, State.startingLevels, faultLevel, if_pos asserted, State.moduleFails_starting state]
      · refine congrArg finish ((congrArg (State.readyReleased b)
          (State.at_modBay_self (by rw [← lost released]))).trans ?_)
        rw [serves state, faultLevel, readyLevel, quiet, released, State.readyReleased, if_neg]
        · rfl
        · intro starting
          have state : (s.bay b).state = .ready ∨ (s.bay b).state = .serving ∨ (s.bay b).state = .stopping := state
          simp [starting] at state
      · refine congrArg finish ((congrArg (State.readyAsserted b)
          (State.at_modBay_self (by rw [← readied asserted]))).trans ?_)
        rw [starts state, State.readyAsserted, if_pos state]
      · rw [serves state, faultLevel, readyLevel, quiet, asserted]
        rfl
      · rw [starts state, State.startingLevels, faultLevel, readyLevel, quiet, released]
        rfl

/-! ### The pattern table (R38, R40) -/

theorem DriveMode.pattern_single {k : Nat} {row : List Bool} (at_ : [[true, false, false, false], [false, true, false, false],
    [false, false, true, false], [false, false, false, true]][k]? = some row) : DriveMode.single.pattern k = row := by
  match k with
  | 0 | 1 | 2 | 3 => exact Option.some.inj at_
  | _ + 4 => cases at_

theorem DriveMode.pattern_double {k : Nat} {row : List Bool} (at_ : [[true, true, false, false], [false, true, true, false],
    [false, false, true, true], [true, false, false, true]][k]? = some row) : DriveMode.double.pattern k = row := by
  match k with
  | 0 | 1 | 2 | 3 => exact Option.some.inj at_
  | _ + 4 => cases at_

theorem DriveMode.pattern_half {k : Nat} {row : List Bool} (at_ : [[true, false, false, false], [true, true, false, false],
    [false, true, false, false], [false, true, true, false], [false, false, true, false], [false, false, true, true],
    [false, false, false, true], [true, false, false, true]][k]? = some row) : DriveMode.half.pattern k = row := by
  match k with
  | 0 | 1 | 2 | 3 | 4 | 5 | 6 | 7 => exact Option.some.inj at_
  | _ + 8 => cases at_

theorem State.phaseLines_service {s : State} {i : LaneId} (service : (s.lane i).state = .homing ∨ (s.lane i).state = .running) :
    s.phaseLines i = (s.laneSettings i).mode.pattern (s.lane i).diverter.phaseIndex := by
  unfold State.phaseLines
  rcases service with h | h <;> rw [h]

theorem State.phaseLines_idle {s : State} {i : LaneId} (idle : (s.lane i).state = .off ∨ (s.lane i).state = .held) :
    s.phaseLines i = [false, false, false, false] := by
  unfold State.phaseLines
  rcases idle with h | h <;> rw [h]

/-! ### Sending (R160, R166) -/

theorem length_flatMap_characterLevels (bytes : List Byte) : (bytes.flatMap characterLevels).length = 10 * bytes.length := by
  induction bytes with
  | nil => rfl
  | cons b bs ih =>
    rw [List.flatMap_cons, List.length_append, ih, List.length_cons, show (characterLevels b).length = 10 from rfl]
    omega

/-- Bit cell `j` of the frame's character `n`. -/
theorem lineLevel_character {bytes : List Byte} {n j : Nat} {x : Byte} (at_ : bytes[n]? = some x) (cell : j < 10) :
    lineLevel bytes (10 * n + j) = (characterLevels x).getD j true := by
  have length (b : Byte) : (characterLevels b).length = 10 := rfl
  induction bytes generalizing n with
  | nil => cases at_
  | cons b bs ih =>
    rw [lineLevel, List.flatMap_cons]
    cases n with
    | zero =>
      cases at_
      rw [List.getD_append _ _ _ _ (by rw [length]; omega), Nat.mul_zero, Nat.zero_add]
    | succ n =>
      rw [List.getD_append_right _ _ _ _ (by rw [length]; omega), length,
        show 10 * (n + 1) + j - 10 = 10 * n + j by omega]
      exact ih at_

theorem lineLevel_after {bytes : List Byte} {k : Nat} (after : 10 * bytes.length ≤ k) : lineLevel bytes k = true := by
  rw [lineLevel, List.getD_eq_default]
  rwa [length_flatMap_characterLevels]

theorem characterLevels_data (x : Byte) {k : Nat} (h : k < 8) : (characterLevels x).getD (1 + k) true = x.getLsbD k := by
  match k, h with
  | 0, _ | 1, _ | 2, _ | 3, _ | 4, _ | 5, _ | 6, _ | 7, _ => rfl

/-- A line carries the characters of its frame back to back and is high after them. -/
theorem lineLevel_carries (bytes : List Byte) :
    (∀ n x, bytes[n]? = some x → lineLevel bytes (10 * n) = false
      ∧ (∀ k < 8, lineLevel bytes (10 * n + 1 + k) = x.getLsbD k) ∧ lineLevel bytes (10 * n + 9) = true)
    ∧ ∀ k, 10 * bytes.length ≤ k → lineLevel bytes k = true := by
  refine ⟨fun n x at_ => ⟨lineLevel_character (j := 0) at_ (by decide), fun k h => ?_,
    lineLevel_character at_ (by decide)⟩, fun k => lineLevel_after⟩
  rw [Nat.add_assoc, lineLevel_character at_ (by omega), characterLevels_data x h]

/-! ### Reading a character (R5, R154) -/

theorem cellLevel_iff (cells : Cells) (k : Nat) :
    cellLevel cells k = true ↔ 2 ≤ ([0, 1, 2].filter fun j => cells.getLsbD (3 * k + j)).length := by
  unfold cellLevel
  cases a : cells.getLsbD (3 * k) <;> cases b : cells.getLsbD (3 * k + 1) <;> cases c : cells.getLsbD (3 * k + 2) <;>
    simp [majority, a, b, c]

theorem cellLevel_of_same {cells : Cells} {k : Nat} {b : Bool} (same : ∀ j < 3, cells.getLsbD (3 * k + j) = b) :
    cellLevel cells k = b := by
  rw [cellLevel, show cells.getLsbD (3 * k) = b from same 0 (by decide), same 1 (by decide), same 2 (by decide), majority_same]

/-- The byte of eight data bits. -/
theorem getLsbD_byte_of_bits : ∀ b0 b1 b2 b3 b4 b5 b6 b7 : Bool, ∀ k : Fin 8,
    (BitVec.ofNat 8 ((if b0 then 2 ^ 0 else 0) + (if b1 then 2 ^ 1 else 0) + (if b2 then 2 ^ 2 else 0)
      + (if b3 then 2 ^ 3 else 0) + (if b4 then 2 ^ 4 else 0) + (if b5 then 2 ^ 5 else 0) + (if b6 then 2 ^ 6 else 0)
      + (if b7 then 2 ^ 7 else 0))).getLsbD k = [b0, b1, b2, b3, b4, b5, b6, b7][k] := by
  decide

theorem readCharacter_byte {cells : Cells} (start : cellLevel cells 0 = false) (stop : cellLevel cells 9 = true) :
    ∃ x : Byte, readCharacter cells = .byte x ∧ ∀ k < 8, x.getLsbD k = cellLevel cells (k + 1) := by
  refine ⟨_, (if_neg (by simp [start])).trans (if_neg (by simp [stop])), fun k h => ?_⟩
  refine (getLsbD_byte_of_bits _ _ _ _ _ _ _ _ ⟨k, h⟩).trans ?_
  match k, h with
  | 0, _ | 1, _ | 2, _ | 3, _ | 4, _ | 5, _ | 6, _ | 7, _ => rfl

/-- Settles O18: each line by its definition, a sent frame by its bit cells, a read character by its majorities. -/
theorem outputLinesFollowTheState : Obligations.OutputLinesFollowTheState := by
  refine ⟨fun s => ⟨fun i => ⟨decide_eq_true_iff, State.phaseLines_idle, fun service => ?_⟩, fun b => ⟨?_, decide_eq_true_iff,
      Option.isSome_iff_exists⟩, decide_eq_true_iff, ?_⟩, fun rate1 rate0 => ?_,
    fun cells x low data high => ?_, fun cells => ?_⟩
  · intro at_
    have lines := State.phaseLines_service service
    refine ⟨fun mode row h => ?_, fun mode row h => ?_, fun mode row h => ?_⟩
    all_goals rw [lines, show (s.laneSettings i).mode = _ from mode]
    · exact DriveMode.pattern_single h
    · exact DriveMode.pattern_double h
    · exact DriveMode.pattern_half h
  · unfold State.bayPower
    cases (s.bay b).state <;> simp [BayState.powered]
  · intro carries
    have sends : carries s.txd s.txFrame := lineLevel_carries s.txFrame
    refine ⟨fun idle => ?_, fun bytes sending => ?_, fun b => lineLevel_carries (s.bay b).service.printFrame⟩
    · rwa [show s.txFrame = [] by rw [State.txFrame, idle]] at sends
    · rwa [show s.txFrame = bytes by rcases sending with h | h <;> rw [State.txFrame, h]] at sends
  · cases rate1 <;> cases rate0 <;> rfl
  · obtain ⟨y, read, bits⟩ := readCharacter_byte (cells := cells) (cellLevel_of_same (by simpa using low))
      (cellLevel_of_same high)
    rw [read]
    refine congrArg _ (BitVec.eq_of_getLsbD_eq fun k h => ?_)
    rw [bits k h, cellLevel_of_same fun j hj => data k h j hj]
  · intro high
    have level (k : Nat) : high k ↔ cellLevel cells k = true := (cellLevel_iff cells k).symm
    simp only [level, Bool.not_eq_true]
    refine ⟨fun start => if_pos start, fun start stop => (if_neg (by simp [start])).trans (if_pos (by simp [stop])),
      fun start stop => ?_⟩
    obtain ⟨x, read, bits⟩ := readCharacter_byte start stop
    exact ⟨x, read, fun k h => by rw [bits k h]⟩

end Sys2Proof.Machine
end


section
/-! PROOF. The arbiter (R135): when a bay is offered nothing, and the hand-over of a cash order and of a voucher order (R147, R150,
R153, R154). -/

namespace Sys2Proof.Machine

section

variable {s : State} {b : BayId}

/-- Two changes of a bay are the one whose result on the bay as it stands is theirs. -/
theorem State.modBay_twice {f g k : Bay → Bay} (h : g (f (s.bay b)) = k (s.bay b)) :
    (s.modBay b f).modBay b g = s.modBay b k := by
  rw [State.modBay_modBay]
  exact State.modBay_congr h

/-! ### The bays the arbiter leaves alone -/

theorem State.offer_busy (busy : (s.bay b).state ≠ .ready) : s.offer b = s := if_neg busy

theorem State.bay_requestUnit_ne {c : BayId} (other : b ≠ c) : (s.requestUnit b).bay c = s.bay c := by
  unfold State.requestUnit
  dsimp only
  split
  · rfl
  · split
    · exact State.bay_modBay_ne _ other _
    · split <;> exact State.bay_modBay_ne _ other _

theorem State.bay_handVoucher_ne {c : BayId} (other : b ≠ c) (o : PayOrder) (number : Nat × Nat) :
    (s.handVoucher b o number).bay c = s.bay c := by
  rw [State.handVoucher, State.startPrint, State.modService, State.bay_modBay_ne _ other, State.enterServing,
    State.bay_modBay_ne _ other]
  rfl

/-- The arbiter's offer to one bay leaves the other alone. -/
theorem State.bay_offer_ne {c : BayId} (other : b ≠ c) : (s.offer b).bay c = s.bay c := by
  unfold State.offer
  split
  · split
    · split
      · rw [State.handCash, State.bay_requestUnit_ne other, State.enterServing, State.bay_modBay_ne _ other]
        rfl
      · rfl
    · split
      · unfold State.handPrint
        split <;> exact State.bay_handVoucher_ne other _ _
      · rfl
    · rfl
  · rfl

/-- The arbiter leaves a bay alone that is not READY. -/
theorem State.bay_arbitrate (busy : (s.bay b).state ≠ .ready) : s.arbitrate.bay b = s.bay b := by
  have zero : (s.offer 0).bay b = s.bay b := by
    by_cases same : b = 0
    · rw [← same, State.offer_busy busy]
    · exact State.bay_offer_ne (Ne.symm same)
  rw [State.arbitrate]
  by_cases same : b = 1
  · rw [← same, State.offer_busy (by rw [zero]; exact busy), zero]
  · rw [State.bay_offer_ne (Ne.symm same), zero]

/-! ### Who is offered what (R135) -/

theorem PayMethod.kind_inj {m n : PayMethod} : m.kind = n.kind ↔ m = n := by cases m <;> cases n <;> decide

theorem State.waitingFor_none {m : PayMethod} (none_ : ∀ o ∈ s.queue.orders, o.state = .waiting → o.method ≠ m) :
    s.waitingFor m.kind = none := by
  refine List.find?_eq_none.2 fun o ho => ?_
  rw [Bool.and_eq_true, decide_eq_true_iff, decide_eq_true_iff, PayMethod.kind_inj]
  rintro ⟨waiting, same⟩
  exact none_ o ho waiting same

section

variable {xs ys : List PayOrder} {o : PayOrder} (orders : s.queue.orders = xs ++ o :: ys)

include orders

theorem State.waitingFor_oldest (waiting : o.state = .waiting) (first : ∀ x ∈ xs, x.state = .waiting → x.method ≠ o.method) :
    s.waitingFor o.method.kind = some o := by
  rw [State.waitingFor, orders]
  refine find?_at (fun x hx => ?_) (by simp [waiting])
  rw [← Bool.not_eq_true, Bool.and_eq_true, decide_eq_true_iff, decide_eq_true_iff, PayMethod.kind_inj]
  rintro ⟨waiting, same⟩
  exact first x hx waiting same

theorem State.modOrder_at (f : PayOrder → PayOrder) (first : ∀ x ∈ xs, x.number ≠ o.number) :
    s.modOrder o.number f = { s with queue := { s.queue with orders := xs ++ f o :: ys } } := by
  rw [State.modOrder, State.modOrders, orders, modifyFirst_at (fun x hx => by simpa using first x hx) (by simp)]

end

/-! ### The next unit (R150) -/

section

variable {f : Bay → Bay}

theorem State.requestUnit_pulse (pulse : (f (s.bay b)).service.pulse ≠ none) :
    (s.modBay b f).requestUnit b = s.modBay b f := by
  refine if_pos ?_
  rw [State.bay_modBay_self]
  exact Option.isSome_iff_ne_none.2 pulse

variable (idle : (f (s.bay b)).service.pulse = none)

include idle

theorem State.requestUnit_starts (free : ∀ e, (f (s.bay b)).service.pulseEnd = some e → 80 ≤ Tick.since s.tick e) :
    (s.modBay b f).requestUnit b = s.modBay b fun y => { f y with service := { (f y).service with
      pulse := some (s.tick + 80), unitTimer := some (s.tick + 4000), nextUnit := none } } := by
  have starts : (s.modBay b f).requestUnit b = (s.modBay b f).startUnit b := by
    rw [State.requestUnit, State.bay_modBay_self, idle]
    cases ended : (f (s.bay b)).service.pulseEnd with
    | none => rfl
    | some e => exact if_pos (free e ended)
  rw [starts, State.startUnit, State.modService]
  exact State.modBay_twice rfl

theorem State.requestUnit_waits {e : Tick} (ended : (f (s.bay b)).service.pulseEnd = some e)
    (early : Tick.since s.tick e < 80) : (s.modBay b f).requestUnit b = s.modBay b fun y => { f y with
      service := { (f y).service with nextUnit := some (e + 80) } } := by
  have waits : (s.modBay b f).requestUnit b = (s.modBay b f).modService b fun v => { v with nextUnit := some (e + 80) } := by
    rw [State.requestUnit, State.bay_modBay_self, idle, ended]
    exact if_neg (Nat.not_le.2 early)
  rw [waits, State.modService]
  exact State.modBay_twice rfl

end

/-! ### Hand-over (R147, R153, R154) -/

section

variable {xs ys : List PayOrder} {o : PayOrder} (ready : (s.bay b).state = .ready)
  (orders : s.queue.orders = xs ++ o :: ys) (waiting : o.state = .waiting)
  (first : ∀ x ∈ xs, x.number ≠ o.number ∧ (x.state = .waiting → x.method ≠ o.method))

include ready orders waiting first

theorem State.offer_cash (cash : o.method = .cash) (kind : (s.bay b).kind = some .cash) :
    s.offer b = (State.enterServing b o.number { s with queue := { s.queue with
      orders := xs ++ { o with state := .serving, bay := some b } :: ys } }).requestUnit b := by
  have oldest := State.waitingFor_oldest orders waiting fun x hx => (first x hx).2
  rw [cash] at oldest
  rw [State.offer, if_pos ready, kind]
  simp only [show s.waitingFor .cash = some o from oldest]
  rw [State.handCash, State.modOrder_at orders _ fun x hx => (first x hx).1]

theorem State.offer_voucher {seq : Nat} (voucher : o.method = .voucher) (kind : (s.bay b).kind = some .voucher)
    (next : s.part.voucherSeq = some seq) : s.offer b = s.handPrint b o seq := by
  have oldest := State.waitingFor_oldest orders waiting fun x hx => (first x hx).2
  rw [voucher] at oldest
  rw [State.offer, if_pos ready, kind]
  simp only [show s.waitingFor .voucher = some o from oldest, next]

end

/-- A bay as it enters SERVING with the order of number `n`. -/
theorem State.enterServing_cash (n : Nat) :
    (s.bay b).service.pulse = none →
      ((∀ e, (s.bay b).service.pulseEnd = some e → 80 ≤ Tick.since s.tick e) →
        (s.enterServing b n).requestUnit b = s.modBay b fun y => { y with
          state := .serving
          service := ⟨some n, 0, some (s.tick + 80), y.service.pulseEnd, some (s.tick + 4000), none, none, [], none⟩ })
      ∧ ∀ e, (s.bay b).service.pulseEnd = some e → Tick.since s.tick e < 80 →
        (s.enterServing b n).requestUnit b = s.modBay b fun y => { y with
          state := .serving
          service := ⟨some n, 0, none, some e, none, some (e + 80), none, [], none⟩ } := by
  refine fun idle => ⟨fun free => (State.requestUnit_starts idle free).trans rfl, fun e ended early => ?_⟩
  refine (State.requestUnit_waits idle ended early).trans (State.modBay_congr ?_)
  simp only [idle, ended]

theorem State.enterServing_pulse (n : Nat) {p : Tick} (pulse : (s.bay b).service.pulse = some p) :
    (s.enterServing b n).requestUnit b = s.modBay b fun y => { y with
      state := .serving
      service := ⟨some n, 0, some p, y.service.pulseEnd, none, none, none, [], none⟩ } := by
  refine (State.requestUnit_pulse (by simp [pulse])).trans (State.modBay_congr ?_)
  simp only [pulse]

theorem State.handVoucher_eq {xs ys : List PayOrder} {o : PayOrder} (orders : s.queue.orders = xs ++ o :: ys)
    (first : ∀ x ∈ xs, x.number ≠ o.number) (number : Nat × Nat) :
    s.handVoucher b o number = State.modBay b (fun y => { y with
      state := .serving
      service := { y.service with
        order := some o.number, units := 0, unitTimer := none, nextUnit := none, printTimer := none
        print := some ⟨number.1, number.2, min 255 (o.attempts + 1)⟩
        printFrame := frameOf (printBody ⟨number.1, number.2, min 255 (o.attempts + 1)⟩ (s.accountNumber o.account) o.docket
          (o.amount - o.paid)) } }) { s with queue := { s.queue with orders := xs
            ++ { o with state := .serving, bay := some b, voucher := some number, attempts := min 255 (o.attempts + 1) }
              :: ys } } := by
  rw [State.handVoucher, State.modOrder_at orders _ first]
  unfold State.startPrint State.modService State.enterServing
  exact State.modBay_twice rfl

end

/-- Settles O45: the four ways to be offered nothing, then the hand-over with what the bay's pulse allows. -/
theorem arbiterHandsOver : Obligations.ArbiterHandsOver := by
  refine fun s => ⟨rfl, fun b => ⟨State.offer_busy, fun kind none_ => ?_, fun kind none_ => ?_,
    fun xs o ys ready orders waiting first => ⟨fun cash kind => ?_, fun seq voucher kind next => ?_⟩⟩⟩
  · rw [State.offer, kind]
    simp only [show s.waitingFor .cash = none from State.waitingFor_none (m := .cash) none_, ite_self]
  · rw [State.offer, kind]
    rcases none_ with none_ | exhausted
    · simp only [show s.waitingFor .voucher = none from State.waitingFor_none (m := .voucher) none_, ite_self]
    · simp only [exhausted]
      split
      · split
        next => contradiction
        next => rfl
      · rfl
  · have handed := State.offer_cash ready orders waiting first cash kind
    intro started v
    let u : State := { s with queue := { s.queue with orders := xs ++ { o with state := .serving, bay := some b } :: ys } }
    refine ⟨fun idle never => ?_, fun e idle ended late => ?_, fun e idle ended early =>
      handed.trans ((State.enterServing_cash (s := u) o.number idle).2 e ended early),
      fun p pulse => handed.trans (State.enterServing_pulse (s := u) o.number pulse)⟩
    · refine handed.trans (((State.enterServing_cash (s := u) o.number idle).1 fun e ended => ?_).trans
        (State.modBay_congr ?_))
      · cases never.symm.trans ended
      · rw [show (u.bay b).service.pulseEnd = none from never]
    · refine handed.trans (((State.enterServing_cash (s := u) o.number idle).1 fun e' ended' => ?_).trans
        (State.modBay_congr ?_))
      · cases ended.symm.trans ended'
        exact late
      · rw [show (u.bay b).service.pulseEnd = some e from ended]
  · intro number attempt holder body
    have frame : printBody ⟨number.1, number.2, attempt⟩ holder o.docket (o.amount - o.paid) = body := by
      cases docket : o.docket <;> simp [body, printBody, presence, bitsByte, optBytes, b1, docket] <;> rfl
    rw [← frame, State.offer_voucher ready orders waiting first voucher kind next]
    have hands (u : State) (queue : u.queue.orders = xs ++ o :: ys) :=
      State.handVoucher_eq (s := u) (b := b) queue fun x hx => (first x hx).1
    cases has : o.voucher with
    | some number_ =>
      have number_eq : number = number_ := by simp [number, has]
      have part : { s.part with voucherSeq := some seq } = s.part := by rw [← next]
      rw [State.handPrint, has, ← number_eq]
      refine (hands s orders number).trans ?_
      rw [if_pos (show (some number).isSome = true from rfl), part]
      rfl
    | none =>
      have number_eq : number = (s.part.day, seq) := by simp [number, has]
      rw [State.handPrint, has, ← number_eq]
      exact hands { s with part := { s.part with voucherSeq := nextSequence seq } } orders number

end Sys2Proof.Machine
end


section
/-! PROOF. Power, seats and failures of a payout bay (R143 to R149, R151, R155, R156). -/

namespace Sys2Proof.Machine

section

variable {s : State} {b : BayId} {order : Option PayOrder}

/-! ### Faults, drains and interruption (R137, R145, R149, R155) -/

theorem State.interrupt_eq {number : Option Nat} (serves : number = order.map PayOrder.number) :
    s.interrupt b number = s.handsBack b order := by
  subst serves
  cases order <;> rfl

theorem State.recordFault_eq (c : FaultCause) : s.recordFault b c = State.join (.bay b) (s.modBay b fun y => { y with
    lastFault := some c, flags := { y.flags with fault := true } }) :=
  congrArg (State.join _) (State.modBay_twice rfl)

/-- A bay that enters FAULT after another change of it. -/
theorem State.enterFault_modBay {f : Bay → Bay} {c : FaultCause}
    (serves : (f (s.bay b)).service.order = order.map PayOrder.number) : (s.modBay b f).enterFault b c =
      State.handsBack b order (State.join (.bay b) (s.modBay b fun y => { Bay.unpowered .fault (f y) with
        lastFault := some c, flags := { (f y).flags with fault := true } })) := by
  rw [State.enterFault, State.interrupt_eq (by rw [State.bay_modBay_self]; exact serves), State.recordFault_eq,
    State.modBay_modBay, State.modBay_modBay]
  rfl

/-- A bay whose drain has ended on tick `t`: OFF, or POWERING with its enable on again (R155). -/
def Bay.drained (t : Tick) (y : Bay) : Bay :=
  { Bay.unpowered (if y.enable = true then .powering else .off) y with
    powerTimer := if y.enable = true then some (t + 800) else none }

theorem State.endDrain_eq (serves : (s.bay b).service.order = order.map PayOrder.number) :
    s.endDrain b = State.handsBack b order (s.modBay b (Bay.drained s.tick)) := by
  rw [State.endDrain, State.interrupt_eq serves]
  refine congrArg (State.handsBack b order) ?_
  split
  next on =>
    unfold State.enterPowering
    refine State.modBay_twice ?_
    simp only [Bay.drained, on, if_true]
    rfl
  next off =>
    refine State.modBay_congr ?_
    simp only [Bay.drained, off]
    rfl

/-- A drain that ends with a fault after another change of the bay. -/
theorem State.faultDrain_modBay {f : Bay → Bay} {c : FaultCause}
    (serves : (f (s.bay b)).service.order = order.map PayOrder.number) :
    ((s.modBay b f).recordFault b c).endDrain b =
      State.handsBack b order (State.join (.bay b) (s.modBay b fun y => { (f y).drained s.tick with
        lastFault := some c, flags := { (f y).flags with fault := true } })) := by
  rw [State.recordFault_eq, State.modBay_modBay,
    State.endDrain_eq (order := order) (by rw [State.bay_join, State.bay_modBay_self]; exact serves), State.modBay_join,
    State.modBay_modBay]
  rfl

theorem State.moduleFails_fault {c : FaultCause}
    (state : (s.bay b).state = .starting ∨ (s.bay b).state = .ready ∨ (s.bay b).state = .serving) :
    s.moduleFails b c = s.enterFault b c := by
  unfold State.moduleFails
  rcases state with h | h | h <;> rw [h]

theorem State.moduleFails_stopping {c : FaultCause} (state : (s.bay b).state = .stopping) :
    s.moduleFails b c = (s.recordFault b c).endDrain b := by
  rw [State.moduleFails, state]

theorem State.moduleFails_other {c : FaultCause} (starting : (s.bay b).state ≠ .starting)
    (ready : (s.bay b).state ≠ .ready) (serving : (s.bay b).state ≠ .serving) (stopping : (s.bay b).state ≠ .stopping) :
    s.moduleFails b c = s := by
  unfold State.moduleFails
  split
  next h => exact absurd h starting
  next h => exact absurd h ready
  next h => exact absurd h serving
  next h => exact absurd h stopping
  next => rfl

/-- What a failure of the module does after another change of the bay: FAULT, or the end of a drain. -/
theorem State.moduleFails_modBay {f : Bay → Bay} (c : FaultCause)
    (serves : (f (s.bay b)).service.order = order.map PayOrder.number) :
    ((f (s.bay b)).state = .starting ∨ (f (s.bay b)).state = .ready ∨ (f (s.bay b)).state = .serving →
      (s.modBay b f).moduleFails b c = State.handsBack b order (State.join (.bay b) (s.modBay b fun y =>
        { Bay.unpowered .fault (f y) with lastFault := some c, flags := { (f y).flags with fault := true } })))
    ∧ ((f (s.bay b)).state = .stopping →
      (s.modBay b f).moduleFails b c = State.handsBack b order (State.join (.bay b) (s.modBay b fun y =>
        { (f y).drained s.tick with lastFault := some c, flags := { (f y).flags with fault := true } }))) := by
  refine ⟨fun state => ?_, fun state => ?_⟩
  · rw [State.moduleFails_fault (by rwa [State.bay_modBay_self]), State.enterFault_modBay serves]
  · rw [State.moduleFails_stopping (by rwa [State.bay_modBay_self]), State.faultDrain_modBay serves]

theorem State.modBay_id : s.modBay b id = s := State.modBay_eq_self rfl

end

/-- Settles O49: each failure is `moduleFails` after its line's level or at its timer's tick. -/
theorem failuresFaultTheBay : Obligations.FailuresFaultTheBay := by
  intro b s order serves fails
  obtain ⟨number, -⟩ := serves
  have failed {c : Instr} {u : State} {cause : FaultCause} {f : Bay → Bay}
      (run : (s.bay b).state ≠ .starting → exec c s = finish ((u.modBay b f).moduleFails b cause)) (bay : u.bay b = s.bay b)
      (frame : ∀ y, (f y).state = y.state ∧ (f y).enable = y.enable ∧ (f y).service = y.service ∧ (f y).flags = y.flags) :
      fails c u cause f := by
    obtain ⟨state, enable, service, flags⟩ := frame (s.bay b)
    obtain ⟨fault, stopping⟩ := State.moduleFails_modBay (s := u) (b := b) (f := f) (order := order) cause
      (by rw [bay, service, number])
    rw [bay, state] at fault stopping
    refine ⟨fun h => (run ?_).trans ((congrArg finish (fault (.inr h))).trans ?_),
      fun h => (run (by rw [h]; decide)).trans ((congrArg finish (stopping h)).trans ?_)⟩
    · rcases h with h | h <;> rw [h] <;> decide
    all_goals
      refine congrArg (fun v => finish (State.handsBack b order (State.join _ v))) (State.modBay_congr ?_)
      rw [bay, flags]
    rw [Bay.drained, enable]
  refine ⟨fun t => ?_, fun t => ?_, fun due timer => ?_, fun due timer => ?_, fun timer => ?_, fun timer => ?_⟩
  · intro released
    have run (h : (s.bay b).state ≠ .starting) :
        exec (.modReadyReleased b t) s = finish (((s.at t).modBay b released).moduleFails b .readyLost) :=
      congrArg finish (if_neg (by rwa [State.bay_modBay_self]))
    refine ⟨failed run rfl fun _ => ⟨rfl, rfl, rfl, rfl⟩, fun ready serving stopping => ?_⟩
    by_cases starting : (s.bay b).state = .starting
    · exact congrArg finish (if_pos (by rwa [State.bay_modBay_self]))
    · refine (run starting).trans (congrArg finish ?_)
      apply State.moduleFails_other <;> rwa [State.bay_modBay_self]
  · intro asserted
    have run : exec (.modFaultAsserted b t) s = finish (((s.at t).modBay b asserted).moduleFails b .moduleFault) := rfl
    refine ⟨failed (fun _ => run) rfl fun _ => ⟨rfl, rfl, rfl, rfl⟩, fun starting => run.trans (congrArg finish ?_),
      fun starting ready serving stopping => run.trans (congrArg finish ?_)⟩
    · exact (State.moduleFails_modBay (s := s.at t) (f := asserted) .moduleFault number).1 (.inl starting)
    · apply State.moduleFails_other <;> rwa [State.bay_modBay_self]
  · refine failed (f := id) (fun _ => ?_) (State.reach_bay _ _ _) fun _ => ⟨rfl, rfl, rfl, rfl⟩
    show finish (s.expire _ _) = _
    rw [timer, State.modBay_id]
    rfl
  · refine failed (f := id) (fun _ => ?_) (State.reach_bay _ _ _) fun _ => ⟨rfl, rfl, rfl, rfl⟩
    show finish (s.expire _ _) = _
    rw [timer, State.modBay_id]
    rfl
  · show finish (s.expire _ _) = _
    rw [timer]
    rfl
  · show finish (s.expire _ _) = _
    rw [timer]
    rfl

/-! ### The power sequence (R146) -/

section

variable {s : State} {b : BayId} {f : Bay → Bay}

theorem State.enterReady_modBay : (s.modBay b f).enterReady b =
    State.arbitrate (State.join (.bay b) (s.modBay b fun y => { f y with
      state := .ready, powerTimer := none, flags := { (f y).flags with ready := true } })) := by
  rw [State.enterReady, State.modBay_modBay]
  exact congrArg (fun u => State.arbitrate (State.join _ u)) (State.modBay_twice rfl)

theorem State.startingLevels_fault (fault : (f (s.bay b)).modFault.level = true)
    (idle : (f (s.bay b)).service.order = none) : (s.modBay b f).startingLevels b =
      State.join (.bay b) (s.modBay b fun y => { Bay.unpowered .fault (f y) with
        lastFault := some .moduleFault, flags := { (f y).flags with fault := true } }) := by
  rw [State.startingLevels, if_pos (by rwa [State.bay_modBay_self]), State.enterFault_modBay (order := none) idle]
  rfl

theorem State.startingLevels_ready (fault : (f (s.bay b)).modFault.level = false)
    (ready : (f (s.bay b)).modReady.level = true) : (s.modBay b f).startingLevels b =
      State.arbitrate (State.join (.bay b) (s.modBay b fun y => { f y with
        state := .ready, powerTimer := none, flags := { (f y).flags with ready := true } })) := by
  rw [State.startingLevels, if_neg (by simp [fault]), if_pos (by rwa [State.bay_modBay_self]), State.enterReady_modBay]

theorem State.startingLevels_neither (fault : (f (s.bay b)).modFault.level = false)
    (ready : (f (s.bay b)).modReady.level = false) : (s.modBay b f).startingLevels b = s.modBay b f := by
  rw [State.startingLevels, if_neg (by simp [fault]), if_neg (by simp [ready])]

theorem exec_poweringDone_of_due {r f : Bool} {due : Tick} (powering : (s.bay b).state = .powering)
    (timer : (s.bay b).powerTimer = some due) : exec (.poweringDone b r f) s = finish (((s.reach due).modBay b fun y => { y with
      modReady := Line.steady r, modFault := Line.steady f, state := .starting
      powerTimer := some ((s.reach due).tick + 8000) }).startingLevels b) := by
  show finish (s.expire _ _) = _
  rw [Bay.powerDue, if_pos powering, timer]
  exact congrArg (fun u => finish (State.startingLevels b u)) (State.modBay_twice rfl)

end

/-- Settles O48: the levels of the module's lines decide on the entry to STARTING and on MOD_READY. -/
theorem baysPowerUp : Obligations.BaysPowerUp := by
  intro b s faulted readied
  refine ⟨fun due powering timer idle => ?_, fun due starting timer idle => ?_, fun r f other => ?_, fun other => ?_,
    fun t => ?_⟩
  · intro u lines
    have levels (r f : Bool) := exec_poweringDone_of_due (r := r) (f := f) powering timer
    have idle : (u.bay b).service.order = none := by rw [State.reach_bay, idle]
    exact ⟨fun r => (levels r true).trans (congrArg finish (State.startingLevels_fault rfl idle)),
      (levels true false).trans (congrArg finish (State.startingLevels_ready rfl rfl)),
      (levels false false).trans (congrArg finish (State.startingLevels_neither rfl rfl))⟩
  · show finish (s.expire _ _) = _
    rw [Bay.powerDue, if_pos starting, timer]
    refine congrArg finish ?_
    have fails := (State.moduleFails_modBay (s := s.reach due) (b := b) (f := id) (order := none) .noReady
      (by simpa using idle)).1 (.inl (by simpa using starting))
    rw [State.modBay_id] at fails
    exact fails
  · show finish (s.expire _ _) = _
    rw [Bay.powerDue, if_neg other]
    rfl
  · show finish (s.expire _ _) = _
    rw [Bay.powerDue, if_neg other]
    rfl
  · intro asserted
    have meets (starting : (s.bay b).state = .starting) :
        exec (.modReadyAsserted b t) s = finish (((s.at t).modBay b asserted).startingLevels b) :=
      congrArg finish (if_pos (by rwa [State.bay_modBay_self]))
    refine ⟨fun starting quiet => (meets starting).trans (congrArg finish (State.startingLevels_ready quiet rfl)),
      fun starting fault idle => (meets starting).trans (congrArg finish (State.startingLevels_fault fault idle)),
      fun other => congrArg finish (if_neg (by rwa [State.bay_modBay_self]))⟩

/-! ### The seat (R143, R148) -/

section

variable {s : State} {b : BayId}

theorem Bay.seated_eq (contact : Fin 2) (y : Bay) : y.seated = (y.contact contact && y.contact (1 - contact)) := by
  match contact with
  | 0 => rfl
  | 1 => exact Bool.and_comm _ _

theorem Bay.contact_setContact (contact : Fin 2) (closed k1 k2 : Bool) (y : Bay) :
    (y.setContact contact closed k1 k2).contact contact = closed
      ∧ (y.setContact contact closed k1 k2).contact (1 - contact) = y.contact (1 - contact) := by
  match contact with
  | 0 => exact ⟨rfl, rfl⟩
  | 1 => exact ⟨rfl, rfl⟩

theorem Bay.setContact_eq (contact : Fin 2) (closed k1 k2 : Bool) : Bay.setContact contact closed k1 k2 = fun y => { y with
    seat1 := if contact = 0 then ⟨closed, closed, 0⟩ else y.seat1
    seat2 := if contact = 1 then ⟨closed, closed, 0⟩ else y.seat2
    kind1 := Line.steady k1
    kind2 := Line.steady k2 } := by
  match contact with
  | 0 => rfl
  | 1 => rfl

theorem Bay.seated_setContact (contact : Fin 2) (closed k1 k2 : Bool) (y : Bay) :
    (y.setContact contact closed k1 k2).seated = (closed && y.contact (1 - contact)) := by
  obtain ⟨own, other⟩ := y.contact_setContact contact closed k1 k2
  rw [Bay.seated_eq contact, own, other]

theorem Bay.unseatedState_eq (contact : Fin 2) (y : Bay) :
    y.unseatedState = if y.contact contact = false ∧ y.contact (1 - contact) = false then .vacant else .misseated := by
  unfold Bay.unseatedState
  match contact with
  | 0 => simp [Bay.contact]
  | 1 => simp [Bay.contact, and_comm]

/-- The bay after its kind is latched, by the kind and the enable (R143). -/
theorem State.latchKind_modBay {f : Bay → Bay} {k : BayKind}
    (kind : kindOfPins (f (s.bay b)).kind1.level (f (s.bay b)).kind2.level = k) :
    (s.modBay b f).latchKind b = State.join (.bay b) (s.modBay b fun y =>
      { f y with
        kind := some k
        flags := { (f y).flags with seated := true }
        state := if k = .unsupported then .unsupported else if (f y).enable = true then .powering else .off
        powerTimer := if k ≠ .unsupported ∧ (f y).enable = true then some (s.tick + 800) else (f y).powerTimer }) := by
  rw [State.latchKind, State.bay_modBay_self, kind]
  split
  next powers =>
    obtain ⟨supported, enable⟩ := powers
    rw [State.raiseBay, State.modBay_modBay, State.modBay_modBay, State.enterPowering, State.modBay_join]
    refine congrArg (State.join _) (State.modBay_twice ?_)
    simp [supported, enable, State.after, Config.poweringTicks]
  next stays =>
    rw [State.raiseBay, State.modBay_modBay]
    refine congrArg (State.join _) (State.modBay_twice ?_)
    simp only [stays, if_false]
    by_cases unsupported : k = .unsupported
    · simp [unsupported]
    · have off : (f (s.bay b)).enable = false := by simpa using fun enable => stays ⟨unsupported, enable⟩
      simp [unsupported, off]

theorem State.removeModule_modBay {f : Bay → Bay} {order : Option PayOrder}
    (serves : (f (s.bay b)).service.order = order.map PayOrder.number) :
    (s.modBay b f).removeModule b = State.handsBack b order (State.join (.bay b) (s.modBay b fun y =>
      { Bay.unpowered (f y).unseatedState (f y) with kind := none, flags := { (f y).flags with removed := true } })) := by
  rw [State.removeModule, State.interrupt_eq (by rw [State.bay_modBay_self]; exact serves), State.modBay_modBay]
  exact congrArg (fun u => State.handsBack b order (State.join _ u)) (State.modBay_twice rfl)

end

/-- Settles O47: the changed contact with the other one tells whether the module is seated, removed or neither. -/
theorem seatChangesTheBay : Obligations.SeatChangesTheBay := by
  intro b contact closed kind1 kind2 t s c was seated kind
  have set_ : Bay.setContact contact closed kind1 kind2 = seated := Bay.setContact_eq contact closed kind1 kind2
  have changed (h : was contact = !closed) : exec c s = finish (State.followSeats b (was contact && was (1 - contact))
      ((s.at t).modBay b seated)) := by
    rw [← set_, ← show (s.bay b).seated = (was contact && was (1 - contact)) from Bay.seated_eq contact _]
    exact exec_seatChange h
  have now : (seated (s.bay b)).seated = (closed && was (1 - contact)) := by
    rw [← set_]
    exact Bay.seated_setContact contact closed kind1 kind2 _
  have unseated : (seated (s.bay b)).unseatedState
      = if closed = false ∧ was (1 - contact) = false then .vacant else .misseated := by
    obtain ⟨own, other⟩ := (s.bay b).contact_setContact contact closed kind1 kind2
    rw [← set_, Bay.unseatedState_eq contact, own, other]
    rfl
  have latched : kindOfPins (seated (s.bay b)).kind1.level (seated (s.bay b)).kind2.level = kind := kindOfPins_eq _ _
  refine ⟨fun same => congrArg finish (if_pos same), fun open_ close other => ?_, fun order close open_ other serves => ?_,
    fun change other => ?_⟩
  · have run : exec c s = finish (((s.at t).modBay b seated).latchKind b) := by
      rw [changed (by rw [open_, close]; rfl), open_]
      refine congrArg finish (if_pos ?_)
      rw [State.bay_modBay_self]
      exact now.trans (by rw [close, other]; rfl)
    rw [run, State.latchKind_modBay (s := s.at t) latched]
    refine ⟨fun unsupported => ?_, fun supported off => ?_, fun supported on => ?_⟩
    all_goals refine congrArg (fun u => finish (State.join _ u)) (State.modBay_congr ?_)
    · simp only [unsupported, if_true, ne_eq, not_true_eq_false, false_and, if_false]
      rfl
    · have off : (seated (s.bay b)).enable = false := off
      simp only [State.bay_at, off, supported, if_false, Bool.false_eq_true, and_false]
      rfl
    · have on : (seated (s.bay b)).enable = true := on
      simp only [State.bay_at, on, supported, if_false, if_true, ne_eq, not_false_eq_true, and_self]
      rfl
  · have run : exec c s = finish (((s.at t).modBay b seated).removeModule b) := by
      rw [changed (by rw [close, open_]; rfl), close, other]
      refine congrArg finish ((if_neg ?_).trans (if_pos rfl))
      rw [State.bay_modBay_self, State.bay_at, now, open_]
      exact nofun
    rw [run, State.removeModule_modBay serves.1]
    refine congrArg (fun u => finish (State.handsBack b order (State.join _ u))) (State.modBay_congr ?_)
    rw [State.bay_at, unseated, open_, other]
    rfl
  · rw [changed change, other, Bool.and_false]
    refine congrArg finish ((if_neg ?_).trans ((if_neg nofun).trans ?_))
    · rw [State.bay_modBay_self, State.bay_at, now, other, Bool.and_false]
      exact nofun
    · refine State.modBay_twice ?_
      rw [State.bay_at, unseated, other]
      cases closed <;> rfl

/-! ### BAY_POWER (R155, R156) -/

section

variable {s : State} {b : BayId}

theorem exec_bayPower {bay setting : Nat} {t : State} {st : Status} {payload : List Byte} (free : s.free)
    (started : s.part.state ≠ .starting) (decided : decideBayPower bay setting s.heard = (t, ⟨st, payload⟩)) :
    exec (.bayPower bay setting) s = .next (t.answered (.bayPower bay setting) st payload).transmit :=
  exec_of_decided rfl free rfl (PartState.takes_of started nofun nofun nofun nofun) decided

/-- An accepted BAY_POWER replies the bay's state and enable as its action leaves them. -/
theorem decideBayPower_of_bay {setting : Nat} {on : Bool} {t : State} {y : Bay} (reads : yesNo setting = some on)
    (sets : s.setPower b on = t) (bay : t.bay b = y) :
    decideBayPower b.val setting s = (t, ⟨.ok, [byteOf y.state.code, flagByte y.enable]⟩) := by
  rw [decideBayPower, bayOf_val, reads]
  simp only [sets, bay]
  rfl

theorem State.setPower_on_off (off : (s.bay b).state = .off) : s.setPower b true = s.modBay b fun y => { y with
    enable := true, state := .powering, powerTimer := some (s.tick + 800) } := by
  have powers : s.setPower b true = (s.modBay b fun y => { y with enable := true }).enterPowering b :=
    if_pos (by rwa [State.bay_modBay_self])
  rw [powers]
  exact State.modBay_twice rfl

theorem State.setPower_on_other (other : (s.bay b).state ≠ .off) :
    s.setPower b true = s.modBay b fun y => { y with enable := true } :=
  if_neg (by rwa [State.bay_modBay_self])

theorem State.setPower_off_unserved (state : (s.bay b).state = .powering ∨ (s.bay b).state = .starting
      ∨ (s.bay b).state = .ready ∨ (s.bay b).state = .fault) :
    s.setPower b false = s.modBay b fun y => Bay.unpowered .off { y with enable := false } := by
  have powers : s.setPower b false = (s.modBay b fun y => { y with enable := false }).modBay b (Bay.powerDown .off) := by
    show State.powerOff b _ = _
    rw [State.powerOff, State.bay_modBay_self]
    rcases state with h | h | h | h <;> simp only [h]
  rw [powers]
  exact State.modBay_twice rfl

theorem State.setPower_off_other (state : (s.bay b).state = .vacant ∨ (s.bay b).state = .misseated
      ∨ (s.bay b).state = .unsupported ∨ (s.bay b).state = .off ∨ (s.bay b).state = .stopping) :
    s.setPower b false = s.modBay b fun y => { y with enable := false } := by
  show State.powerOff b _ = _
  rw [State.powerOff, State.bay_modBay_self]
  rcases state with h | h | h | h | h <;> simp only [h]

section

variable (serving : (s.bay b).state = .serving)

include serving

theorem State.setPower_off_serving : s.setPower b false =
    if (s.bay b).service.unitTimer.isNone && (s.bay b).service.print.isNone then
      (s.modBay b fun y => { y with
        enable := false, state := .stopping, service := { y.service with nextUnit := none } }).endDrain b
    else s.modBay b fun y => { y with
      enable := false, state := .stopping, service := { y.service with nextUnit := none } } := by
  have twice : (s.modBay b fun y => { y with enable := false }).modBay b (fun y => { y with
      state := .stopping, service := { y.service with nextUnit := none } }) = s.modBay b fun y => { y with
        enable := false, state := .stopping, service := { y.service with nextUnit := none } } := State.modBay_twice rfl
  show State.powerOff b _ = _
  rw [State.powerOff, State.bay_modBay_self]
  simp only [serving, twice]

theorem State.setPower_off_outstanding (outstanding : (s.bay b).service.unitTimer ≠ none ∨ (s.bay b).service.print ≠ none) :
    s.setPower b false = s.modBay b fun y => { y with
      enable := false, state := .stopping, service := { y.service with nextUnit := none } } := by
  rw [State.setPower_off_serving serving, if_neg]
  rw [Bool.and_eq_true, Option.isNone_iff_eq_none, Option.isNone_iff_eq_none]
  rintro ⟨unit, print⟩
  exact outstanding.elim (· unit) (· print)

theorem State.setPower_off_drained {order : Option PayOrder} (unit : (s.bay b).service.unitTimer = none)
    (print : (s.bay b).service.print = none) (serves : (s.bay b).service.order = order.map PayOrder.number) :
    s.setPower b false = State.handsBack b order (s.modBay b fun y => Bay.unpowered .off { y with enable := false }) := by
  rw [State.setPower_off_serving serving, if_pos (by simp [unit, print]),
    State.endDrain_eq (order := order) (by rw [State.bay_modBay_self]; exact serves)]
  exact congrArg (State.handsBack b order) (State.modBay_twice rfl)

end

/-- Handing an order back leaves the state and the enable of a bay that is not READY. -/
theorem State.bay_handsBack {order : Option PayOrder} (busy : (s.bay b).state ≠ .ready) :
    ∃ flags, (s.handsBack b order).bay b = { s.bay b with flags := flags } := by
  cases order with
  | none => exact ⟨_, rfl⟩
  | some o =>
    refine ⟨{ (s.bay b).flags with orderInterrupted := true }, ?_⟩
    have raised : (State.raiseQueue (fun f => { f with orderReturned := true })
        (State.raiseBay b (fun f => { f with orderInterrupted := true })
          (State.modOrder o.number (fun o => { o with state := .waiting, bay := none }) s))).bay b
        = { s.bay b with flags := { (s.bay b).flags with orderInterrupted := true } } := by
      rw [State.bay_raiseQueue, State.bay_raiseBay_self]
      rfl
    rw [State.handsBack, State.bay_arbitrate (by rw [raised]; exact busy), raised]

end

/-- Settles O46: by the setting and the bay state, the reply read off what the action leaves. -/
theorem bayPowerFollowsTheTable : Obligations.BayPowerFollowsTheTable := by
  intro bay setting s free started
  refine ⟨fun range => exec_bayPower free started ?_, ?_⟩
  · unfold decideBayPower
    split
    next b on bay_ setting_ =>
      rcases range with h | h
      · rw [bayOf_none h] at bay_
        cases bay_
      · match setting, h with
        | _ + 2, _ => cases setting_
    next => rfl
  · rintro b rfl
    refine ⟨fun off => exec_bayPower free started ?_, fun other => exec_bayPower free started ?_,
      fun unserved => exec_bayPower free started ?_, fun serving outstanding => exec_bayPower free started ?_,
      fun order serving unit print serves => exec_bayPower free started ?_, fun other => exec_bayPower free started ?_⟩
    · exact decideBayPower_of_bay (setting := 1) rfl (State.setPower_on_off (s := s.heard) off)
        (State.bay_modBay_self _ _ _)
    · exact decideBayPower_of_bay (setting := 1) rfl (State.setPower_on_other (s := s.heard) other)
        (State.bay_modBay_self _ _ _)
    · exact decideBayPower_of_bay (setting := 0) rfl (State.setPower_off_unserved (s := s.heard) unserved)
        (State.bay_modBay_self _ _ _)
    · exact decideBayPower_of_bay (setting := 0) rfl (State.setPower_off_outstanding (s := s.heard) serving outstanding)
        (State.bay_modBay_self _ _ _)
    · obtain ⟨flags, left⟩ := State.bay_handsBack (b := b) (order := order)
        (s := s.heard.modBay b fun y => Bay.unpowered .off { y with enable := false }) (by rw [State.bay_modBay_self]; nofun)
      rw [State.bay_modBay_self] at left
      exact decideBayPower_of_bay (setting := 0) rfl (State.setPower_off_drained (s := s.heard) serving unit print serves.1) left
    · exact decideBayPower_of_bay (setting := 0) rfl (State.setPower_off_other (s := s.heard) other)
        (State.bay_modBay_self _ _ _)

end Sys2Proof.Machine
end


section
/-! PROOF. A bay's service: paying in units (R150, R152, R155), and printing with the bay line (R154, R162, R176). -/

namespace Sys2Proof.Machine

section

variable {s : State} {b : BayId} {t : Tick}

/-! ### Confirmations (R144, R150, R152) -/

/-- The bay on the tick of a confirmation. -/
def Bay.unitSeen (y : Bay) : Bay := { y with unitDone := Line.passing true }

/-- The bay after a unit it awaited is confirmed. -/
def Bay.unitCounted (y : Bay) : Bay :=
  { y with unitDone := Line.passing true, service := { y.service with unitTimer := none, units := y.service.units + 1 } }

theorem State.served_eq_none (serving : (s.bay b).state ≠ .serving) (stopping : (s.bay b).state ≠ .stopping) :
    s.served b = none := by
  unfold State.served
  split
  next h => exact absurd h serving
  next h => exact absurd h stopping
  next => rfl

theorem exec_unitDone : exec (.unitDone b t) s = finish (((s.at t).modBay b Bay.unitSeen).confirmation b) := rfl

theorem State.confirmation_unseen (kind : (s.bay b).kind ≠ some .cash) : s.confirmation b = s := if_neg kind

theorem State.confirmation_stray (kind : (s.bay b).kind = some .cash)
    (stray : (s.bay b).service.unitTimer = none ∨ ((s.bay b).state ≠ .serving ∧ (s.bay b).state ≠ .stopping)) :
    s.confirmation b = s.strayUnit b := by
  refine (if_pos kind).trans ?_
  rcases stray with timer | ⟨serving, stopping⟩
  · rw [timer]
    cases s.served b <;> rfl
  · rw [State.served_eq_none serving stopping]

theorem State.confirmation_awaited {o : PayOrder} {due : Tick} (kind : (s.bay b).kind = some .cash)
    (timer : (s.bay b).service.unitTimer = some due) (served : s.served b = some o) : s.confirmation b = s.payUnit b o := by
  refine (if_pos kind).trans ?_
  rw [timer, served]

section

variable {xs ys : List PayOrder} {o : PayOrder} {due : Tick} (kind : (s.bay b).kind = some .cash)
  (timer : (s.bay b).service.unitTimer = some due) (orders : s.queue.orders = xs ++ o :: ys)
  (first : ∀ x ∈ xs, x.number ≠ o.number) (serves : (s.bay b).service.order = some o.number)
  (state : (s.bay b).state = .serving ∨ (s.bay b).state = .stopping)

/-- The clock, and the pending list once a unit of the order has been paid. -/
def State.unitPaid (xs ys : List PayOrder) (o : PayOrder) (t : Tick) (s : State) : State :=
  { s.at t with queue := { s.queue with orders := xs ++ { o with paid := o.paid + s.settings.cashUnit } :: ys } }

include kind timer orders first serves state

/-- An awaited confirmation pays a unit, and the order is finished, the drain ends, or the next unit is asked for. -/
theorem exec_unitDone_awaited : exec (.unitDone b t) s = finish (
    let u := (s.unitPaid xs ys o t).modBay b Bay.unitCounted
    if o.amount ≤ o.paid + s.settings.cashUnit then u.finishOrder b { o with paid := o.paid + s.settings.cashUnit }
    else if (s.bay b).state = .stopping then u.endDrain b
    else u.requestUnit b) := by
  have bay : ((s.at t).modBay b Bay.unitSeen).bay b = (s.bay b).unitSeen := State.bay_modBay_self _ _ _
  have served : ((s.at t).modBay b Bay.unitSeen).served b = some o :=
    State.served_eq (by rw [bay]; exact state) (by rw [bay]; exact serves) orders first
  have counted : (((s.at t).modBay b Bay.unitSeen).modOrder o.number fun x => { x with
      paid := o.paid + s.settings.cashUnit }).modService b (fun v => { v with unitTimer := none, units := v.units + 1 })
      = (s.unitPaid xs ys o t).modBay b Bay.unitCounted := by
    rw [State.modOrder_at (s := (s.at t).modBay b Bay.unitSeen) orders _ first]
    exact State.modBay_twice (s := s.unitPaid xs ys o t) rfl
  rw [exec_unitDone, State.confirmation_awaited (by rw [bay]; exact kind) (by rw [bay]; exact timer) served,
    State.payUnit, bay]
  exact congrArg (fun u : State => finish (
    if o.amount ≤ o.paid + s.settings.cashUnit then u.finishOrder b { o with paid := o.paid + s.settings.cashUnit }
    else if (s.bay b).state = .stopping then u.endDrain b
    else u.requestUnit b)) counted

end

end

/-- Settles O50: what a confirmation is follows the kind and what is outstanding; an awaited one pays, and the bay goes on. -/
theorem unitsArePaid : Obligations.UnitsArePaid := by
  intro b s
  refine ⟨fun t kind => ?_, fun t kind stray => ?_, fun t due xs o ys kind timer orders first serves => ?_,
    fun due pulse => ?_, fun due timer => ?_, fun pulse => ?_, fun timer => ?_⟩
  · exact congrArg finish (State.confirmation_unseen (by rwa [State.bay_modBay_self]))
  · have seen := State.confirmation_stray (s := (s.at t).modBay b Bay.unitSeen) (b := b)
      (by rw [State.bay_modBay_self]; exact kind) (by rw [State.bay_modBay_self]; exact stray)
    rw [exec_unitDone, seen, State.strayUnit, State.modBay_modBay]
    exact congrArg (fun u => finish (State.join _ u)) (State.modBay_twice rfl)
  · intro paid counted drained paidTo
    have awaited := exec_unitDone_awaited (t := t) kind timer orders first serves
    refine ⟨fun serving short => ?_, fun full => ?_, fun stopping short => ?_⟩
    · have asks : exec (.unitDone b t) s = finish (((s.unitPaid xs ys o t).modBay b Bay.unitCounted).requestUnit b) := by
        rw [awaited (.inl serving)]
        exact congrArg finish ((if_neg (Nat.not_le.2 short)).trans (if_neg (by rw [serving]; nofun)))
      rw [asks]
      refine ⟨fun pulse => ?_, fun e idle ended late => ?_, fun e idle ended early => ?_⟩
      · exact congrArg finish (State.requestUnit_pulse (s := s.unitPaid xs ys o t) pulse)
      · refine congrArg finish ((State.requestUnit_starts (s := s.unitPaid xs ys o t) idle fun e' ended' => ?_).trans rfl)
        cases ended.symm.trans ended'
        exact late
      · exact congrArg finish (State.requestUnit_waits (s := s.unitPaid xs ys o t) idle ended early)
    · intro finished
      have completed : State.completeOrder { o with paid := paid } ((s.unitPaid xs ys o t).modBay b Bay.unitCounted)
          = State.raiseQueue (fun f => { f with orderDone := true })
          (State.dropCommitment { (s.at t).modBay b counted with queue := { s.queue with
            orders := xs ++ ys
            history := (s.queue.history ++ [{ o with paid := o.amount, state := .done, bay := none }]).drop
              (s.queue.history.length + 1 - 8) } }) :=
        State.completeOrder_eq (o' := { o with paid := paid }) rfl rfl first
      refine ⟨fun serving => ?_, fun stopping => ?_⟩
      · rw [awaited (.inl serving)]
        refine congrArg finish ((if_pos full).trans ((State.finishOrder_serving (by
          rw [State.bay_modBay_self]; exact fun h => nomatch serving.symm.trans h)).trans ?_))
        rw [completed]
      · rw [awaited (.inr stopping)]
        refine congrArg finish ((if_pos full).trans ((State.finishOrder_stopping (by
          rw [State.bay_modBay_self]; exact stopping)).trans ?_))
        rw [completed, State.bay_modBay_self]
        rfl
    · rw [awaited (.inr stopping)]
      refine congrArg finish ((if_neg (Nat.not_le.2 short)).trans ((if_pos stopping).trans
        ((State.endDrain_eq (order := some o) (by rw [State.bay_modBay_self]; exact serves)).trans ?_)))
      have twice : ((s.unitPaid xs ys o t).modBay b Bay.unitCounted).modBay b (Bay.drained t)
          = (s.unitPaid xs ys o t).modBay b fun y => drained (counted y) := State.modBay_twice rfl
      exact congrArg (State.handsBack b (some o)) twice
  · show finish (s.expire _ _) = _
    rw [pulse]
    refine congrArg finish ?_
    show State.pulseEnds b (s.reach due) = _
    rw [State.pulseEnds]
    simp only [Bool.and_eq_true, decide_eq_true_iff, Option.isNone_iff_eq_none, and_assoc]
    rfl
  · show finish (s.expire _ _) = _
    rw [timer]
    rfl
  · show finish (s.expire _ _) = _
    rw [pulse]
    rfl
  · show finish (s.expire _ _) = _
    rw [timer]
    rfl

/-! ### The bay line (R154, R162) -/

section

variable {s : State} {b : BayId} {start t : Tick} {c : Cells}

/-- The bay with its receiver as it stands after a character. -/
def Bay.heardLine (rx : FrameReceiver) (y : Bay) : Bay := { y with rx := rx }

theorem exec_bayRxByte_ignored (kind : (s.bay b).kind ≠ some .voucher) :
    exec (.bayRxByte b start t c) s = finish (s.at t) := congrArg finish (if_neg kind)

section

variable {rx : FrameReceiver} (kind : (s.bay b).kind = some .voucher)

include kind

theorem exec_bayRxByte_of_take (taken : (s.bay b).rx.take start t c = ⟨rx, none⟩) :
    exec (.bayRxByte b start t c) s = finish ((s.at t).modBay b (Bay.heardLine rx)) := by
  refine congrArg finish ((if_pos kind).trans ?_)
  rw [State.bay_at, taken]
  rfl

theorem exec_bayRxByte_of_frame {f : Frame} (taken : (s.bay b).rx.take start t c = ⟨rx, some f⟩) :
    exec (.bayRxByte b start t c) s = finish (((s.at t).modBay b (Bay.heardLine rx)).printerFrame b f) := by
  refine congrArg finish ((if_pos kind).trans ?_)
  rw [State.bay_at, taken]
  rfl

end

theorem exec_bayFrameReceived_of_due (due : (s.bay b).rx.awaitsCheck = true) :
    exec (.bayFrameReceived b start t c) s = exec (.bayRxByte b start t c) s :=
  congrArg finish (if_pos due)

theorem exec_bayFrameReceived_idle (idle : ¬ (s.bay b).rx.awaitsCheck = true) :
    exec (.bayFrameReceived b start t c) s = finish (s.at t) :=
  congrArg finish (if_neg idle)

/-! ### The printer's answers (R154, R176) -/

theorem printerAnswer_none {f : Frame} (bad : f.sumGood = false ∨ (f.body.headD 0 ≠ 0x51 ∧ f.body.headD 0 ≠ 0x52)
    ∨ (f.body.headD 0 = 0x51 ∧ f.body.length ≠ 6) ∨ (f.body.headD 0 = 0x52 ∧ f.body.length ≠ 7)) :
    printerAnswer f = none := by
  unfold printerAnswer
  split
  next good =>
    split
    next body =>
      rw [body] at bad
      simp [good] at bad
      exact if_neg fun printed => by simp [printed] at bad
    next body =>
      rw [body] at bad
      simp [good] at bad
      exact if_neg fun failed => by simp [failed] at bad
    next => rfl
  next => rfl

theorem State.printerFrame_discarded {f : Frame}
    (none_ : s.served b = none ∨ (s.bay b).service.print = none ∨ printerAnswer f = none) : s.printerFrame b f = s := by
  unfold State.printerFrame
  split
  · next served print answer => simp_all
  · next served print answer => simp_all
  · rfl

section

variable {job : PrintJob} (print : (s.bay b).service.print = some job)

include print

theorem State.printerFrame_other {f : Frame} {j : PrintJob} (other : j ≠ job)
    (answer : printerAnswer f = some (.printed j) ∨ ∃ code, printerAnswer f = some (.failed j code)) :
    s.printerFrame b f = s := by
  unfold State.printerFrame
  rw [print]
  rcases answer with answer | ⟨code, answer⟩ <;> rw [answer] <;> cases s.served b
  · rfl
  · exact if_neg other
  · rfl
  · exact if_neg other

theorem State.printerFrame_printed {f : Frame} {o : PayOrder} (served : s.served b = some o)
    (answer : printerAnswer f = some (.printed job)) : s.printerFrame b f = s.finishOrder b o := by
  rw [State.printerFrame, served, print, answer]
  exact if_pos rfl

theorem State.printerFrame_failed {f : Frame} {o : PayOrder} {code : Byte} (served : s.served b = some o)
    (answer : printerAnswer f = some (.failed job code)) : s.printerFrame b f = s.moduleFails b (.printFailed code) := by
  rw [State.printerFrame, served, print, answer]
  exact if_pos rfl

end

end

/-- Settles O51: what the receiver makes of a character, and what a completed frame does as an answer. -/
theorem vouchersArePrinted : Obligations.VouchersArePrinted := by
  intro b s
  refine ⟨fun sending => ?_, fun bs frame => ?_, fun idle => ?_, fun idle => ?_, fun start t cells kind => ?_,
    fun start t cells kind read => ?_, fun start t cells kind read => ?_, fun start t cells len body frame full => ?_,
    fun start t cells none_ => ?_, fun start t cells byte kind read => ?_⟩
  · exact congrArg finish (if_neg sending)
  · refine congrArg finish (if_pos ?_)
    rw [frame]
    rfl
  · refine congrArg finish (if_neg ?_)
    rw [idle]
    nofun
  · exact congrArg finish (if_pos idle)
  · refine ⟨exec_bayRxByte_ignored kind, ?_⟩
    by_cases due : (s.bay b).rx.awaitsCheck = true
    · exact (exec_bayFrameReceived_of_due due).trans (exec_bayRxByte_ignored kind)
    · exact exec_bayFrameReceived_idle due
  · exact exec_bayRxByte_of_take kind (FrameReceiver.take_framingError read)
  · exact (exec_bayRxByte_of_take kind (FrameReceiver.take_dropped read)).trans (congrArg finish (State.modBay_congr rfl))
  · exact exec_bayFrameReceived_of_due (FrameReceiver.awaitsCheck_iff.2 ⟨len, body, frame, full⟩)
  · refine exec_bayFrameReceived_idle fun due => ?_
    obtain ⟨len, body, frame, full⟩ := FrameReceiver.awaitsCheck_iff.1 due
    exact none_ len body frame full
  · intro received
    refine ⟨fun hunts => exec_bayRxByte_of_take kind (FrameReceiver.take_hunting read hunts),
      fun bs frame late => exec_bayRxByte_of_take kind (FrameReceiver.take_late read frame late),
      fun frame onTime => exec_bayRxByte_of_take kind (FrameReceiver.take_len read frame onTime),
      fun len body frame room onTime => exec_bayRxByte_of_take kind (FrameReceiver.take_body read frame room onTime),
      fun len body frame full onTime => ?_⟩
    intro c hunting discarded
    have takes : exec c s = finish (((s.at t).modBay b hunting).printerFrame b
        ⟨body, decide (len + sumBytes body + byte = 0)⟩) :=
      (exec_bayFrameReceived_of_due (FrameReceiver.awaitsCheck_iff.2 ⟨len, body, frame, full⟩)).trans
        (exec_bayRxByte_of_frame kind (FrameReceiver.take_check read frame full onTime))
    have bay : ((s.at t).modBay b hunting).bay b = hunting (s.bay b) := State.bay_modBay_self _ _ _
    refine ⟨fun bad => takes.trans (congrArg finish (State.printerFrame_discarded ?_)), ?_⟩
    · rw [bay]
      rcases bad with sum | none_ | ⟨serving, stopping⟩ | bad
      · exact .inr (.inr (printerAnswer_none (.inl (by simpa [sumBytes_eq_sum] using sum))))
      · exact .inr (.inl none_)
      · exact .inl (State.served_eq_none (by rw [bay]; exact serving) (by rw [bay]; exact stopping))
      · exact .inr (.inr (printerAnswer_none (.inr bad)))
    · intro d0 d1 n0 n1 k job xs o ys sum state print serves orders first same drained
      have good : decide (len + sumBytes body + byte = 0) = true := by simpa [sumBytes_eq_sum] using sum
      rw [good] at takes
      have print : (((s.at t).modBay b hunting).bay b).service.print = some job := by rw [bay]; exact print
      have served : ((s.at t).modBay b hunting).served b = some o :=
        State.served_eq (by rw [bay]; exact state) (by rw [bay]; exact serves) orders first
      have job_ : same ↔ (⟨word2 d0 d1, word2 n0 n1, k.toNat⟩ : PrintJob) = job := by
        cases job
        simp only [PrintJob.mk.injEq]
        rfl
      have printed (form : body = [0x51, d0, d1, n0, n1, k]) :
          printerAnswer ⟨body, true⟩ = some (.printed ⟨word2 d0 d1, word2 n0 n1, k.toNat⟩) := by rw [form]; rfl
      have failed_ {code : Byte} (form : body = [0x52, d0, d1, n0, n1, k, code]) :
          printerAnswer ⟨body, true⟩ = some (.failed ⟨word2 d0 d1, word2 n0 n1, k.toNat⟩ code) := by rw [form]; rfl
      refine ⟨fun code form other => takes.trans (congrArg finish ?_), fun form agree => ?_, fun code form agree => ?_⟩
      · refine State.printerFrame_other print (fun h => other (job_.2 h)) ?_
        exact form.imp printed fun form => ⟨code, failed_ form⟩
      · intro finished
        rw [takes, State.printerFrame_printed print served (by rw [printed form, job_.1 agree])]
        have completed : ((s.at t).modBay b hunting).completeOrder o = State.raiseQueue (fun f => { f with orderDone := true })
            (State.dropCommitment { (s.at t).modBay b hunting with queue := { s.queue with
              orders := xs ++ ys
              history := (s.queue.history ++ [{ o with paid := o.amount, state := .done, bay := none }]).drop
                (s.queue.history.length + 1 - 8) } }) := State.completeOrder_eq orders rfl first
        refine ⟨fun serving => ?_, fun stopping => ?_⟩
        · rw [State.finishOrder_serving (by rw [bay]; exact fun h => nomatch serving.symm.trans h), completed]
          rfl
        · rw [State.finishOrder_stopping (by rw [bay]; exact stopping), completed, bay]
          rfl
      · have fails := State.moduleFails_modBay (s := s.at t) (b := b) (f := hunting) (order := some o) (.printFailed code) serves
        intro failed
        have run : exec c s = finish (((s.at t).modBay b hunting).moduleFails b (.printFailed code)) := by
          rw [takes, State.printerFrame_failed print served (by rw [failed_ form, job_.1 agree])]
        exact ⟨fun serving => run.trans (congrArg finish (fails.1 (.inr (.inr serving)))),
          fun stopping => run.trans (congrArg finish ((fails.2 stopping).trans
            (congrArg (fun u => State.handsBack b (some o) (State.join _ u)) (State.modBay_congr rfl))))⟩

end Sys2Proof.Machine
end


section
/-! PROOF. What the events of lanes and bays leave alone: the clock, the queue of commands, the configuration, the type table and
the day. -/

namespace Sys2Proof.Machine

/-- What no timer or edge changes: the clock, the queue of commands, the configuration, the type table and the day. -/
def State.standing (s : State) : Tick × List Instr × Settings × Vector TypeEntry 24 × Nat :=
  (s.tick, s.pending, s.settings, s.types, s.part.day)

namespace State

variable (s : State) (i : LaneId) (b : BayId)

theorem standing_ite {c : Prop} [Decidable c] {s t u : State} (ht : t.standing = s.standing) (hu : u.standing = s.standing) :
    (if c then t else u).standing = s.standing := by
  split
  · exact ht
  · exact hu

/-! ### The named updates -/

@[simp] theorem standing_modLane (f : Lane → Lane) : (s.modLane i f).standing = s.standing := rfl
@[simp] theorem standing_modDocket (f : Docket → Docket) : (s.modDocket i f).standing = s.standing := rfl
@[simp] theorem standing_modDiverter (f : Diverter → Diverter) : (s.modDiverter i f).standing = s.standing := rfl
@[simp] theorem standing_modBay (f : Bay → Bay) : (s.modBay b f).standing = s.standing := rfl
@[simp] theorem standing_modService (f : Service → Service) : (s.modService b f).standing = s.standing := rfl
@[simp] theorem standing_modAccount (a : Nat) (f : Account → Account) : (s.modAccount a f).standing = s.standing := rfl
@[simp] theorem standing_modOrder (n : Nat) (f : PayOrder → PayOrder) : (s.modOrder n f).standing = s.standing := rfl
@[simp] theorem standing_join (x : Source) : (s.join x).standing = s.standing := rfl
@[simp] theorem standing_raiseLane (f : LaneFlags → LaneFlags) : (s.raiseLane i f).standing = s.standing := rfl
@[simp] theorem standing_raiseBay (f : BayFlags → BayFlags) : (s.raiseBay b f).standing = s.standing := rfl
@[simp] theorem standing_raiseQueue (f : QueueFlags → QueueFlags) : (s.raiseQueue f).standing = s.standing := rfl

theorem standing_transmit : s.transmit.standing = s.standing := by
  unfold State.transmit
  split
  · split
    · rfl
    · split
      next x _ _ => cases x <;> rfl
      · rfl
  · rfl

/-! ### The payout queue (R131, R132, R135 to R137) -/

@[simp] theorem standing_evaluatePressure : s.evaluatePressure.standing = s.standing := standing_ite rfl rfl

@[simp] theorem standing_dropCommitment : s.dropCommitment.standing = s.standing := standing_evaluatePressure _

@[simp] theorem standing_appendOrder (a : Nat) (d : Option Nat) (m : PayMethod) (p : Nat) :
    (s.appendOrder a d m p).standing = s.standing := rfl

@[simp] theorem standing_startUnit : (s.startUnit b).standing = s.standing := rfl

@[simp] theorem standing_requestUnit : (s.requestUnit b).standing = s.standing := by
  refine standing_ite rfl ?_
  split
  · rfl
  · exact standing_ite rfl rfl

theorem standing_handVoucher (o : PayOrder) (n : Nat × Nat) : (s.handVoucher b o n).standing = s.standing := rfl

@[simp] theorem standing_handPrint (o : PayOrder) (n : Nat) : (s.handPrint b o n).standing = s.standing := by
  unfold State.handPrint
  split
  · exact standing_handVoucher _ _ _ _
  · exact standing_handVoucher _ _ _ _

@[simp] theorem standing_handCash (o : PayOrder) : (s.handCash b o).standing = s.standing := standing_requestUnit _ _

@[simp] theorem standing_offer : (s.offer b).standing = s.standing := by
  refine standing_ite ?_ rfl
  split
  · split <;> simp
  · split <;> simp
  · rfl

@[simp] theorem standing_arbitrate : s.arbitrate.standing = s.standing := by simp [State.arbitrate]

@[simp] theorem standing_completeOrder (o : PayOrder) : (s.completeOrder o).standing = s.standing := standing_dropCommitment _

@[simp] theorem standing_returnOrder (n : Nat) : (s.returnOrder n).standing = s.standing := rfl

/-! ### The bays (R143 to R155) -/

@[simp] theorem standing_enterPowering : (s.enterPowering b).standing = s.standing := rfl

@[simp] theorem standing_interrupt (n : Option Nat) : (s.interrupt b n).standing = s.standing := by
  unfold State.interrupt
  split <;> simp

@[simp] theorem standing_recordFault (c : FaultCause) : (s.recordFault b c).standing = s.standing := rfl

@[simp] theorem standing_enterFault (c : FaultCause) : (s.enterFault b c).standing = s.standing := by
  simp [State.enterFault]

@[simp] theorem standing_endDrain : (s.endDrain b).standing = s.standing := by
  rw [State.endDrain, standing_interrupt]
  exact standing_ite rfl rfl

@[simp] theorem standing_moduleFails (c : FaultCause) : (s.moduleFails b c).standing = s.standing := by
  unfold State.moduleFails
  split <;> simp

@[simp] theorem standing_enterReady : (s.enterReady b).standing = s.standing := by simp [State.enterReady]

@[simp] theorem standing_startingLevels : (s.startingLevels b).standing = s.standing :=
  standing_ite (by simp) (standing_ite (by simp) rfl)

@[simp] theorem standing_poweringEnds : (s.poweringEnds b).standing = s.standing := by simp [State.poweringEnds]

@[simp] theorem standing_latchKind : (s.latchKind b).standing = s.standing := standing_ite rfl rfl

@[simp] theorem standing_removeModule : (s.removeModule b).standing = s.standing := by simp [State.removeModule]

@[simp] theorem standing_followSeats (was : Bool) : (s.followSeats b was).standing = s.standing :=
  standing_ite (standing_ite rfl (by simp)) (standing_ite (by simp) rfl)

@[simp] theorem standing_serviceDone : (s.serviceDone b).standing = s.standing :=
  standing_ite (by simp) (by simp)

@[simp] theorem standing_finishOrder (o : PayOrder) : (s.finishOrder b o).standing = s.standing := by
  simp [State.finishOrder]

@[simp] theorem standing_payUnit (o : PayOrder) : (s.payUnit b o).standing = s.standing :=
  standing_ite (by simp) (standing_ite (by simp) (by simp))

@[simp] theorem standing_confirmation : (s.confirmation b).standing = s.standing := by
  refine standing_ite ?_ rfl
  split
  · simp
  · rfl

@[simp] theorem standing_moduleLevels : (s.moduleLevels b).standing = s.standing := by
  unfold State.moduleLevels
  split
  · simp
  · exact standing_ite (by simp) (standing_ite rfl (by simp))
  · exact standing_ite (by simp) (standing_ite rfl (by simp))
  · exact standing_ite (by simp) (standing_ite rfl (by simp))
  · rfl

theorem standing_sampleBay : (s.sampleBay b).standing = s.standing := by
  rw [State.sampleBay, standing_moduleLevels]
  refine (standing_ite (standing_confirmation _ _) rfl).trans (standing_ite rfl ?_)
  exact standing_followSeats _ _ _

theorem standing_tickPower : (s.tickPower b).standing = s.standing := by
  refine standing_ite ?_ rfl
  split <;> simp

theorem standing_tickService : (s.tickService b).standing = s.standing :=
  (standing_ite (standing_moduleFails _ _ _) rfl).trans ((standing_ite (standing_moduleFails _ _ _) rfl).trans
    ((standing_ite (standing_startUnit _ _) rfl).trans (standing_ite rfl rfl)))

theorem standing_tickBay : (s.tickBay b).standing = s.standing :=
  (standing_tickService _ _).trans ((standing_tickPower _ _).trans (standing_sampleBay _ _))

/-! ### Lane control (R57 to R67, R88 to R90, R112) -/

@[simp] theorem standing_settleAccount (d : Docket) : (s.settleAccount i d).standing = s.standing := by
  unfold State.settleAccount
  dsimp only
  split <;> rfl

@[simp] theorem standing_settleDocket : (s.settleDocket i).standing = s.standing := by
  unfold State.settleDocket
  split
  · rfl
  next d _ =>
    have released : ∀ u : State, u.standing = s.standing →
        (if d.method ≠ .account ∧ ¬ (s.computed d).order?.isSome then u.dropCommitment else u).standing = s.standing :=
      fun u h => standing_ite ((standing_dropCommitment u).trans h) h
    exact standing_ite ((standing_arbitrate _).trans (released _ (by simp))) (released _ (by simp))

theorem standing_addHold (r : HoldReason) : (s.addHold i r).standing = s.standing := standing_ite rfl rfl

theorem standing_raiseVoided (n : Nat) : (s.raiseVoided i n).standing = s.standing := standing_ite rfl rfl

@[simp] theorem standing_holdLane (r : HoldReason) : (s.holdLane i r).standing = s.standing :=
  (standing_raiseVoided _ _ _).trans (standing_addHold _ _ _)

@[simp] theorem standing_settleIfClosing : (s.settleIfClosing i).standing = s.standing := standing_ite (by simp) rfl

@[simp] theorem standing_laneFault (r : HoldReason) : (s.laneFault i r).standing = s.standing := by
  have held : (s.enterHeld i r).standing = s.standing := standing_ite (by simp) (by simp)
  unfold State.laneFault
  split
  · exact held
  · exact held
  · rfl
  · rfl

theorem standing_quietExpires : (s.quietExpires i).standing = s.standing := standing_ite rfl rfl

theorem standing_autoCloseExpires : (s.autoCloseExpires i).standing = s.standing :=
  standing_ite (standing_ite (by simp) rfl) rfl

theorem standing_jamExpires (beam : Beam) : (s.jamExpires i beam).standing = s.standing := standing_laneFault _ _ _

/-! ### The drive and the gate (R39 to R50) -/

@[simp] theorem standing_tryMove : (s.tryMove i).standing = s.standing := by
  unfold State.tryMove
  dsimp only
  split
  · exact standing_ite rfl rfl
  · rfl

theorem standing_completeStep : (s.completeStep i).standing = s.standing := by
  unfold State.completeStep
  split
  · exact standing_ite rfl (standing_ite rfl (standing_laneFault _ _ _))
  · exact standing_tryMove _ _
  · rfl

theorem standing_arrive (n : Nat) : (s.arrive i n).standing = s.standing := by
  have misrouted (p : Passage) : (s.misroute i p).standing = s.standing := standing_laneFault _ _ _
  unfold State.arrive
  split
  · exact standing_ite (standing_ite rfl rfl) (misrouted _)
  · split
    · exact misrouted _
    · rfl

theorem standing_clearGate (n : Nat) : (s.clearGate i n).standing = s.standing :=
  (standing_ite (standing_settleIfClosing _ _) rfl).trans (standing_tryMove _ _)

/-! ### Sensing (R1 to R18) -/

theorem standing_classify (p : Passage) : (s.classify i p).standing = s.standing := by
  unfold State.classify
  split
  · rfl
  · split <;> rfl

theorem standing_measureBOff : (s.measureBOff i).standing = s.standing := by
  unfold State.measureBOff
  split
  · rfl
  · split
    · exact standing_ite ((standing_tryMove _ _).trans (standing_classify _ _ _)) (standing_laneFault _ _ _)
    · exact standing_laneFault _ _ _

theorem standing_edgeA (on : Bool) : (s.edgeA i on).standing = s.standing :=
  standing_ite (standing_ite (standing_ite rfl (standing_laneFault _ _ _)) rfl) rfl

theorem standing_edgeB (on : Bool) : (s.edgeB i on).standing = s.standing :=
  standing_ite (standing_ite (standing_ite rfl (standing_laneFault _ _ _)) (standing_measureBOff _ _)) rfl

theorem standing_press : (s.press i).standing = s.standing := by
  unfold State.press
  split <;> rfl

theorem standing_sampleLane : (s.sampleLane i).standing = s.standing := by
  have edgeA (u : State) (on : Bool) (c : Prop) [Decidable c] : (if c then u else u.edgeA i on).standing = u.standing :=
    standing_ite rfl (standing_edgeA _ _ _)
  have edgeB (u : State) (on : Bool) (c : Prop) [Decidable c] : (if c then u else u.edgeB i on).standing = u.standing :=
    standing_ite rfl (standing_edgeB _ _ _)
  have neck (u : State) (c : Prop) [Decidable c] : (if c then u.edgeNeck i else u).standing = u.standing :=
    standing_ite (standing_ite rfl rfl) rfl
  have press (u : State) (c : Prop) [Decidable c] : (if c then u.press i else u).standing = u.standing :=
    standing_ite (standing_press _ _) rfl
  simp only [State.sampleLane, edgeA, edgeB, neck, press, standing_modLane]

/-! ### A lane's tick -/

theorem standing_foldl {f : State → Nat → State} (step : ∀ s n, (f s n).standing = s.standing) (ns : List Nat) :
    (ns.foldl f s).standing = s.standing := by
  induction ns generalizing s with
  | nil => rfl
  | cons n ns ih => exact (ih _).trans (step s n)

theorem standing_tickGate : (s.tickGate i).standing = s.standing :=
  (standing_foldl _ (fun s n => standing_ite (standing_clearGate s i n) rfl) _).trans
    (standing_foldl s (fun s n => standing_ite (standing_arrive s i n) rfl) _)

theorem standing_tickLane : (s.tickLane i).standing = s.standing := by
  have step (s : State) : (s.tickStep i).standing = s.standing := standing_ite (standing_completeStep _ _) rfl
  have jams (s : State) : (s.tickJams i).standing = s.standing :=
    (standing_ite (standing_jamExpires _ _ _) rfl).trans (standing_ite (standing_jamExpires _ _ _) rfl)
  have docket (s : State) : (s.tickDocket i).standing = s.standing :=
    (standing_ite (standing_autoCloseExpires _ _) rfl).trans (standing_ite (standing_quietExpires _ _) rfl)
  exact (standing_tryMove _ _).trans ((docket _).trans ((jams _).trans ((standing_tickGate _ _).trans ((step _).trans
    (standing_sampleLane _ _)))))

end State

end Sys2Proof.Machine
end


section
/-! PROOF. One tick of the part (log entries 3 and 4): each due timer expires as its command does. -/

namespace Sys2Proof.Machine

section

variable {s : State} {i : LaneId}

/-! ### Due timers -/

theorem State.due_eq_true {x : Option Tick} (h : ∃ d, x = some d ∧ s.reached d = true) : s.due x = true :=
  (State.due_iff s).2 h

theorem State.due_eq_false {x : Option Tick} (h : ¬ ∃ d, x = some d ∧ s.reached d = true) : s.due x = false := by
  rw [← Bool.not_eq_true, State.due_iff]
  exact h

/-- A timer that expires on a tick it has come to does so on that tick. -/
theorem State.expire_due {x : Option Tick} (h : ∃ d, x = some d ∧ s.reached d = true) (f : State → State) :
    s.expire x f = f s := by
  obtain ⟨d, rfl, reached⟩ := h
  exact congrArg f (State.reach_of_reached s reached)

/-- A timer that starts now has not expired. -/
theorem State.not_reached_after {n : Nat} (low : 0 < n) (high : n < 2 ^ 31) : s.reached (s.after n) = false := by
  have since : Tick.since s.tick (s.after n) = 2 ^ 32 - n := by
    unfold Tick.since State.after
    bv_omega
  rw [State.reached, since]
  exact decide_eq_false (by omega)

/-! ### Jam timers (R18, R59) -/

theorem Lane.jamB_settled (d : Docket) (l : Lane) (stopped : l.jamB = none) : (l.settled d).jamB = none := by
  unfold Lane.settled Lane.afterSettlement
  dsimp only
  split
  · exact stopped
  · rfl

theorem State.jamB_settleIfClosing (stopped : (s.lane i).jamB = none) : ((s.settleIfClosing i).lane i).jamB = none := by
  unfold State.settleIfClosing
  split
  next closing =>
    obtain ⟨d, docket, -⟩ := Option.map_eq_some_iff.1 closing
    rw [State.lane_settleDocket docket, if_pos rfl]
    exact Lane.jamB_settled d _ stopped
  next => exact stopped

theorem State.jamB_holdLane (r : HoldReason) : ((s.holdLane i r).lane i).jamB = none := by
  obtain ⟨h, f, -, held⟩ := (s.modLane i Lane.hold).lane_addHold_self i r
  have added : ((State.addHold i r (s.modLane i Lane.hold)).lane i).jamB = none := by
    rw [held, State.lane_modLane_self]
    rfl
  unfold State.holdLane State.raiseVoided
  split
  · exact added
  · rw [State.lane_raiseLane_self]
    exact added

/-- A jam on beam A of a lane in service stops its timer for beam B. -/
theorem State.jamB_jamExpires (service : (s.lane i).state = .homing ∨ (s.lane i).state = .running) :
    ((s.jamExpires i .a).lane i).jamB = none := by
  have held (u : State) : ((u.enterHeld i .jam).lane i).jamB = none :=
    State.jamB_settleIfClosing (State.jamB_holdLane .jam)
  unfold State.jamExpires State.laneFault
  split
  · exact held _
  · exact held _
  next off => simp_all
  next held => simp_all

theorem State.jamExpires_idle (beam : Beam) (idle : ¬ ((s.lane i).state = .homing ∨ (s.lane i).state = .running)) :
    s.jamExpires i beam = s.modLane i fun l => match beam with
      | .a => { l with jamA := none }
      | .b => { l with jamB := none } := by
  refine State.laneFault_idle ?_
  rw [State.lane_modLane_self]
  cases beam <;> cases state : (s.lane i).state <;> simp_all

theorem State.tickJams_none (a : s.due (s.lane i).jamA = false) (b : s.due (s.lane i).jamB = false) : s.tickJams i = s := by
  simp [State.tickJams, a, b]

theorem State.due_congr {t : State} (tick : t.tick = s.tick) (x : Option Tick) : t.due x = s.due x := by
  cases x with
  | none => rfl
  | some d => rw [State.due, State.due, State.reached, State.reached, tick]

theorem State.tick_of_standing {s t : State} (h : t.standing = s.standing) : t.tick = s.tick := congrArg Prod.fst h

theorem State.tickJams_a (a : s.due (s.lane i).jamA = true)
    (b : s.due (s.lane i).jamB = false ∨ ((s.lane i).state = .homing ∨ (s.lane i).state = .running)) :
    s.tickJams i = s.jamExpires i .a := by
  have later : (s.jamExpires i .a).due ((s.jamExpires i .a).lane i).jamB = false := by
    by_cases service : (s.lane i).state = .homing ∨ (s.lane i).state = .running
    · rw [State.jamB_jamExpires service]
      rfl
    · rw [State.jamExpires_idle .a service, State.lane_modLane_self, State.due_congr rfl]
      exact b.resolve_right service
  simp only [State.tickJams, a, later, if_true, Bool.false_eq_true, if_false]

theorem State.tickJams_b (a : s.due (s.lane i).jamA = false) (b : s.due (s.lane i).jamB = true) :
    s.tickJams i = s.jamExpires i .b := by
  simp only [State.tickJams, a, b, if_true, Bool.false_eq_true, if_false]

/-! ### The docket's timers (R65 to R67) -/

theorem State.tickDocket_none (quiet : s.due (s.lane i).quietTimer = false)
    (auto : s.due (s.lane i).autoCloseTimer = false) : s.tickDocket i = s := by
  simp [State.tickDocket, quiet, auto]

theorem State.not_due_autoClose (bound : s.settings.autoClose ≤ 60) : s.due s.autoCloseDue = false := by
  unfold State.autoCloseDue
  split
  · rfl
  next positive =>
    refine State.not_reached_after ?_ ?_ <;> unfold Config.ticksPerMinute <;> omega

theorem State.tickDocket_quiet (quiet : s.due (s.lane i).quietTimer = true)
    (auto : s.due (s.lane i).autoCloseTimer = false) (bound : s.settings.autoClose ≤ 60) :
    s.tickDocket i = s.quietExpires i := by
  have later : (s.quietExpires i).due ((s.quietExpires i).lane i).autoCloseTimer = false := by
    rw [State.due_congr (State.tick_of_standing (State.standing_quietExpires s i))]
    unfold State.quietExpires
    dsimp only
    split
    · rw [State.lane_raiseLane_self, State.lane_modDocket_self, State.lane_modLane_self]
      exact State.not_due_autoClose bound
    · rw [State.lane_modLane_self]
      exact auto
  simp only [State.tickDocket, quiet, later, if_true, Bool.false_eq_true, if_false]

theorem State.tickDocket_auto (quiet : s.due (s.lane i).quietTimer = false)
    (auto : s.due (s.lane i).autoCloseTimer = true) : s.tickDocket i = s.autoCloseExpires i := by
  simp only [State.tickDocket, quiet, auto, if_true, Bool.false_eq_true, if_false]

/-! ### Steps and gate events (R39, R41, R44, R47, R50) -/

theorem State.tickStep_due (due : s.due ((s.lane i).diverter.step.map MotorStep.due) = true) :
    s.tickStep i = s.completeStep i := if_pos due

theorem State.stepDue_of_state {st : LaneState} (state : (s.lane i).state = st) :
    (s.lane i).stepDue st = (s.lane i).diverter.step.map MotorStep.due := if_pos state

theorem Passage.arrivalArmed_of_due {p : Passage} (due : s.due p.gateArrival = true) :
    p.arrivalArmed = true ↔ p.committed = false := by
  obtain ⟨d, armed, -⟩ := (State.due_iff s).1 due
  simp [Passage.arrivalArmed, armed]

theorem State.mem_dueArrivals {n : Nat} : n ∈ s.dueArrivals i ↔ ∃ p ∈ (s.lane i).travel ++ (s.lane i).span,
    p.seq = n ∧ p.committed = false ∧ ∃ d, p.gateArrival = some d ∧ s.reached d = true := by
  simp only [State.dueArrivals, List.mem_map, List.mem_filter, Bool.and_eq_true, ← State.due_iff]
  constructor
  · rintro ⟨p, ⟨mem, armed, due⟩, named⟩
    exact ⟨p, mem, named, (Passage.arrivalArmed_of_due due).1 armed, due⟩
  · rintro ⟨p, mem, named, uncommitted, due⟩
    exact ⟨p, ⟨mem, (Passage.arrivalArmed_of_due due).2 uncommitted, due⟩, named⟩

theorem State.mem_dueClears {n : Nat} : n ∈ s.dueClears i ↔ ∃ p ∈ (s.lane i).travel,
    p.seq = n ∧ p.committed = true ∧ ∃ d, p.gateClear = some d ∧ s.reached d = true := by
  simp only [State.dueClears, List.mem_map, List.mem_filter, Bool.and_eq_true, ← State.due_iff]
  constructor
  · rintro ⟨p, ⟨mem, committed, due⟩, named⟩
    exact ⟨p, mem, named, committed, due⟩
  · rintro ⟨p, mem, named, committed, due⟩
    exact ⟨p, ⟨mem, committed, due⟩, named⟩

theorem findCommitted_eq_none {seq : Nat} {ps : List Passage} (none_ : ∀ q ∈ ps, q.seq = seq → q.committed = false) :
    findCommitted seq ps = none := by
  refine List.find?_eq_none.2 fun q hq => ?_
  by_cases named : q.seq = seq
  · simp [none_ q hq named]
  · simp [named]

end

/-! ### A bay's timers (R146, R150, R151, R154) -/

section

variable {s : State} {b : BayId}

/-- An interruption leaves the service of a bay that is not READY. -/
theorem State.service_interrupt {n : Option Nat} (busy : (s.bay b).state ≠ .ready) :
    ((s.interrupt b n).bay b).service = (s.bay b).service := by
  cases n with
  | none => rfl
  | some n =>
    have returned : ((s.raiseBay b fun f => { f with orderInterrupted := true }).returnOrder n).bay b
        = { s.bay b with flags := { (s.bay b).flags with orderInterrupted := true } } := by
      rw [State.returnOrder, State.bay_raiseQueue, State.modOrder, State.bay_modOrders, State.bay_raiseBay_self]
    rw [State.interrupt, State.bay_arbitrate (by rw [returned]; exact busy), returned]

theorem State.service_enterFault (c : FaultCause) : ((s.enterFault b c).bay b).service = Service.idle := by
  have faulted : ((State.recordFault b c (s.modBay b (Bay.powerDown .fault))).bay b).state = .fault
      ∧ ((State.recordFault b c (s.modBay b (Bay.powerDown .fault))).bay b).service = Service.idle := by
    rw [State.recordFault, State.bay_raiseBay_self, State.bay_modBay_self, State.bay_modBay_self]
    exact ⟨rfl, rfl⟩
  obtain ⟨state, service⟩ := faulted
  rw [State.enterFault, State.service_interrupt (by rw [state]; decide), service]

theorem State.service_endDrain : ((s.endDrain b).bay b).service = Service.idle := by
  have off : (s.modBay b (Bay.powerDown .off)).bay b = Bay.powerDown .off (s.bay b) := State.bay_modBay_self _ _ _
  have on : ((s.modBay b (Bay.powerDown .off)).enterPowering b).bay b = { Bay.powerDown .off (s.bay b) with
      state := .powering, powerTimer := some (s.after Config.poweringTicks) } := by
    rw [State.enterPowering, State.bay_modBay_self, off]
    rfl
  rw [State.endDrain]
  split
  · rw [State.service_interrupt (by rw [on]; nofun), on]
    rfl
  · rw [State.service_interrupt (by rw [off]; nofun), off]
    rfl

/-- A failure that acts leaves no timer of a service running. -/
theorem State.printTimer_moduleFails (c : FaultCause) (quiet : s.due (s.bay b).service.printTimer = false) :
    (s.moduleFails b c).due ((s.moduleFails b c).bay b).service.printTimer = false := by
  rw [State.due_congr (State.tick_of_standing (State.standing_moduleFails s b c))]
  unfold State.moduleFails
  split
  · rw [State.service_enterFault]; rfl
  · rw [State.service_enterFault]; rfl
  · rw [State.service_enterFault]; rfl
  · rw [State.service_endDrain]; rfl
  · exact quiet

theorem State.tickService_none (pulse : s.due (s.bay b).service.pulse = false)
    (next : s.due (s.bay b).service.nextUnit = false) (unit : s.due (s.bay b).service.unitTimer = false)
    (print : s.due (s.bay b).service.printTimer = false) : s.tickService b = s := by
  simp [State.tickService, pulse, next, unit, print]

theorem State.tickService_pulse (pulse : s.due (s.bay b).service.pulse = true)
    (unit : s.due (s.bay b).service.unitTimer = false)
    (print : s.due (s.bay b).service.printTimer = false) : s.tickService b = s.pulseEnds b := by
  have later : (s.pulseEnds b).due ((s.pulseEnds b).bay b).service.nextUnit = false
      ∧ (s.pulseEnds b).due ((s.pulseEnds b).bay b).service.unitTimer = false
      ∧ (s.pulseEnds b).due ((s.pulseEnds b).bay b).service.printTimer = false := by
    simp only [State.pulseEnds, State.bay_modBay_self]
    refine ⟨?_, unit, print⟩
    split
    · exact State.not_reached_after (by decide) (by decide)
    · rfl
  obtain ⟨next, unit, print⟩ := later
  simp only [State.tickService, pulse, next, unit, print, if_true, Bool.false_eq_true, if_false]

theorem State.tickService_next (pulse : s.due (s.bay b).service.pulse = false)
    (next : s.due (s.bay b).service.nextUnit = true)
    (print : s.due (s.bay b).service.printTimer = false) : s.tickService b = s.startUnit b := by
  have later : (s.startUnit b).due ((s.startUnit b).bay b).service.unitTimer = false
      ∧ (s.startUnit b).due ((s.startUnit b).bay b).service.printTimer = false := by
    simp only [State.startUnit, State.modService, State.bay_modBay_self]
    exact ⟨State.not_reached_after (by decide) (by decide), print⟩
  obtain ⟨unit, print⟩ := later
  simp only [State.tickService, pulse, next, unit, print, if_true, Bool.false_eq_true, if_false]

theorem State.tickService_unit (pulse : s.due (s.bay b).service.pulse = false)
    (next : s.due (s.bay b).service.nextUnit = false) (unit : s.due (s.bay b).service.unitTimer = true)
    (print : s.due (s.bay b).service.printTimer = false) : s.tickService b = s.moduleFails b .unitTimeout := by
  have later := State.printTimer_moduleFails .unitTimeout print
  simp only [State.tickService, pulse, next, unit, later, if_true, Bool.false_eq_true, if_false]

theorem State.tickService_print (pulse : s.due (s.bay b).service.pulse = false)
    (next : s.due (s.bay b).service.nextUnit = false) (unit : s.due (s.bay b).service.unitTimer = false)
    (print : s.due (s.bay b).service.printTimer = true) : s.tickService b = s.moduleFails b .printTimeout := by
  simp only [State.tickService, pulse, next, unit, print, if_true, Bool.false_eq_true, if_false]

end

/-- The tick's lanes and bays in the order of their numbers. -/
theorem State.idleTick_eq_foldl (s : State) : s.idleTick = State.transmit (List.foldl State.tickBay
    (List.foldl State.tickLane { s with tick := s.tick + 1 } [0, 1, 2, 3]) [0, 1]) := by
  unfold State.idleTick
  simp only [List.foldl_cons, List.foldl_nil]

theorem step_of_empty {s : State} (empty : s.pending = []) : step s = .next s.idleTick := by
  rw [step]
  split
  next => rfl
  next c rest queued => exact absurd (empty.symm.trans queued) nofun

/-- Settles O2: the tick is its lanes' and bays' ticks, and a due timer does what its command does. -/
theorem idleStepIsOneTick : Obligations.IdleStepIsOneTick := by
  refine ⟨fun s idle => ?_, fun i s => ?_, fun b s => ?_⟩
  · have steps : step s = .next s.idleTick := step_of_empty idle
    have standing : s.idleTick.standing = State.standing { s with tick := s.tick + 1 } := by
      unfold State.idleTick
      simp only [State.standing_transmit, State.standing_tickBay, State.standing_tickLane]
    simp only [State.standing, Prod.mk.injEq] at standing
    obtain ⟨tick, pending, settings, types, day⟩ := standing
    exact ⟨⟨_, steps, tick, pending.trans idle, settings, types, day⟩,
      steps.trans (congrArg _ s.idleTick_eq_foldl)⟩
  · intro due stops v levels pass run shown
    have on {x : Option Tick} (h : due x) : s.due x = true := State.due_eq_true h
    have off {x : Option Tick} (h : ¬ due x) : s.due x = false := State.due_eq_false h
    refine ⟨?_, fun a b => State.tickJams_none (off a) (off b), fun a b => ?_, fun a b => ?_, fun a b idle => ?_,
      fun no => if_neg (by simp [off no]), fun step => ⟨fun running => ?_, fun home homing level current => ?_⟩, rfl,
      fun n => State.mem_dueArrivals, fun n => State.mem_dueClears,
      fun n => ⟨fun h => ?_, fun h => ?_, fun p running awaiting armed => ?_,
        fun xs p ys running travel before named committed armed => ?_⟩,
      fun q a => State.tickDocket_none (off q) (off a), fun q a bound => ?_, fun q a => ?_⟩
    · have shows : s.showHome i = shown := by
        unfold State.showHome State.settleHome State.modDiverter
        exact State.modLane_twice rfl
      rw [State.tickLane, shows]
    · rw [State.tickJams_a (on a) (b.imp_left off)]
      exact congrArg finish (State.expire_due a _)
    · rw [State.tickJams_b (off a) (on b)]
      exact congrArg finish (State.expire_due b _)
    · have armed : (s.jamExpires i .a).due ((s.jamExpires i .a).lane i).jamB = true := by
        rw [State.jamExpires_idle .a idle, State.lane_modLane_self, State.due_congr rfl]
        exact on b
      have both : s.tickJams i = (s.jamExpires i .a).jamExpires i .b := by
        simp only [State.tickJams, on a, armed, if_true]
      rw [both, State.jamExpires_idle .a idle, State.jamExpires_idle .b (by rw [State.lane_modLane_self]; exact idle)]
      exact State.modLane_twice rfl
    · rw [State.tickStep_due (on step)]
      refine congrArg finish ((congrArg (fun x => s.expire x _) (State.stepDue_of_state running)).trans ?_)
      exact State.expire_due step _
    · have told : s.tellHome i home = s := State.tellHome_accepted current level
      rw [State.tickStep_due (on step), State.completeStep]
      obtain ⟨d, some_, -⟩ := id step
      obtain ⟨m, moving, -⟩ := Option.map_eq_some_iff.1 some_
      rw [moving, homing]
      refine congrArg finish ((congrArg (fun x => s.expire x _) (State.stepDue_of_state homing)).trans ?_)
      exact (State.expire_due step _).trans (congrArg (State.homingStep i) told)
    · refine if_neg ?_
      rintro ⟨running, awaiting⟩
      rw [h.resolve_left (not_not_intro running)] at awaiting
      cases awaiting
    · refine if_neg ?_
      rintro ⟨running, found⟩
      rw [findCommitted_eq_none (h.resolve_left (not_not_intro running))] at found
      cases found
    · obtain ⟨d, armed, reached⟩ := armed
      rw [exec_gateArrival_of_awaiting running awaiting armed, State.reach_of_reached s reached, State.takeArrival,
        if_pos ⟨running, by rw [awaiting]; rfl⟩]
      rfl
    · obtain ⟨d, armed, reached⟩ := armed
      have found : findCommitted n (s.lane i).travel = some p := by rw [travel, findCommitted_at before named committed]
      rw [exec_gateClear_of_found running found armed, State.reach_of_reached s reached, State.takeClear,
        if_pos ⟨running, by rw [found]; rfl⟩]
      rfl
    · rw [State.tickDocket_quiet (on q) (off a) bound]
      exact congrArg finish (State.expire_due q _)
    · rw [State.tickDocket_auto (off q) (on a)]
      exact congrArg finish (State.expire_due a _)
  · intro due v
    have on {x : Option Tick} (h : due x) : s.due x = true := State.due_eq_true h
    have off {x : Option Tick} (h : ¬ due x) : s.due x = false := State.due_eq_false h
    refine ⟨rfl, fun no => if_neg (by simp [off no]), fun power => ⟨fun r f powering ready fault => ?_, fun starting => ?_⟩,
      fun p n u t => State.tickService_none (off p) (off n) (off u) (off t), fun p n u t => ?_, fun p n u t => ?_,
      fun p n u t => ?_, fun p n u t => ?_⟩
    · have lines : (s.modBay b fun y => { y with modReady := Line.steady r, modFault := Line.steady f }) = s :=
        State.modBay_eq_self (by rw [← ready, ← fault])
      have ends : s.tickPower b = s.poweringEnds b := by
        rw [State.tickPower, if_pos (on power), powering]
      rw [ends]
      refine congrArg finish ((congrArg (fun x => s.expire x _) (if_pos powering)).trans ?_)
      exact (State.expire_due power _).trans (congrArg (State.poweringEnds b) lines)
    · have fails : s.tickPower b = s.moduleFails b .noReady := by
        rw [State.tickPower, if_pos (on power), starting]
      rw [fails]
      refine congrArg finish ((congrArg (fun x => s.expire x _) (if_pos starting)).trans ?_)
      exact State.expire_due power _
    · rw [State.tickService_pulse (on p) (off u) (off t)]
      exact congrArg finish (State.expire_due p _)
    · rw [State.tickService_next (off p) (on n) (off t)]
      exact congrArg finish (State.expire_due n _)
    · rw [State.tickService_unit (off p) (off n) (on u) (off t)]
      exact congrArg finish (State.expire_due u _)
    · rw [State.tickService_print (off p) (off n) (off u) (on t)]
      exact congrArg finish (State.expire_due t _)

end Sys2Proof.Machine
end

section
/-! PROOF. The payout queue (chapter 8): the numbers of dockets and orders, the pressure, and the requests PAY_CREDIT and
ORDER_CANCEL. -/

namespace Sys2Proof.Machine

/-! ### Fresh numbers (R73, R129) -/

theorem nextNumber_iterate {n : Nat} (low : 1 ≤ n) (high : n ≤ 65535) (k : Nat) :
    nextNumber^[k] n = (n - 1 + k) % 65535 + 1 := by
  induction k with
  | zero => rw [Function.iterate_zero_apply]; omega
  | succ k ih => rw [Function.iterate_succ_apply', ih, nextNumber]; split <;> omega

/-- A search that ends on a used number has passed over used numbers alone. -/
theorem mem_of_freeNumber_mem {used : List Nat} {fuel n : Nat} (h : freeNumber used fuel n ∈ used) :
    ∀ k ≤ fuel, nextNumber^[k] n ∈ used := by
  induction fuel generalizing n with
  | zero => intro k hk; rw [Nat.le_zero.1 hk]; exact h
  | succ fuel ih =>
    rw [freeNumber] at h
    split at h
    next taken =>
      rintro (_ | k) hk
      · exact taken
      · exact ih h k (Nat.le_of_succ_le_succ hk)
    next unused => exact absurd h unused

theorem freeNumber_of_not_mem {used : List Nat} {n : Nat} (unused : n ∉ used) : ∀ fuel, freeNumber used fuel n = n
  | 0 => rfl
  | _ + 1 => if_neg unused

theorem freeNumber_in_range {used : List Nat} (fuel : Nat) {n : Nat} (low : 1 ≤ n) (high : n ≤ 65535) :
    1 ≤ freeNumber used fuel n ∧ freeNumber used fuel n ≤ 65535 := by
  induction fuel generalizing n with
  | zero => exact ⟨low, high⟩
  | succ fuel ih =>
    rw [freeNumber]
    split
    · apply ih <;> (rw [nextNumber]; split <;> omega)
    · exact ⟨low, high⟩

/-- As many tries as there are used numbers suffice while not every number is used: one more number than those is met
before the counter comes round. -/
theorem freeNumber_not_mem {used : List Nat} {n : Nat} (low : 1 ≤ n) (high : n ≤ 65535) (short : used.length < 65535) :
    freeNumber used used.length n ∉ used := by
  intro taken
  have passed := mem_of_freeNumber_mem taken
  have distinct : ((List.range (used.length + 1)).map fun k => nextNumber^[k] n).Nodup := by
    refine List.Nodup.map_on (fun a ha b hb same => ?_) List.nodup_range
    rw [List.mem_range] at ha hb
    simp only [nextNumber_iterate low high] at same
    omega
  have within : ((List.range (used.length + 1)).map fun k => nextNumber^[k] n) ⊆ used := by
    intro x hx
    obtain ⟨k, hk, rfl⟩ := List.mem_map.1 hx
    exact passed k (Nat.le_of_lt_succ (List.mem_range.1 hk))
  have longer := (distinct.subperm within).length_le
  rw [List.length_map, List.length_range] at longer
  omega

theorem State.length_dockets_le (s : State) : s.dockets.length ≤ 4 :=
  (List.length_filterMap_le _ _).trans_eq (Vector.length_toList ..)

/-! ### Pressure (R132) -/

theorem State.evaluatePressure_same {s : State}
    (h : s.queue.pressure.next s.settings.highMark s.settings.lowMark s.queue.commitments = s.queue.pressure) :
    s.evaluatePressure = s :=
  if_pos h

theorem State.evaluatePressure_changed {s : State} {p : Pressure} (changed : p ≠ s.queue.pressure)
    (h : s.queue.pressure.next s.settings.highMark s.settings.lowMark s.queue.commitments = p) :
    s.evaluatePressure = State.raiseQueue (QueueFlags.pressure p) { s with queue := { s.queue with pressure := p } } := by
  unfold State.evaluatePressure
  rw [h]
  exact if_neg changed

/-- Settles O42: the counter passes over used numbers, and the pressure is the marks' table. -/
theorem numbersAndPressure : Obligations.NumbersAndPressure := by
  intro s
  refine ⟨fun low high => ?_, fun low high few => ?_, fun n => ⟨rfl, fun count => ?_, fun was mark => ?_, fun was mark => ?_,
    fun was mark => ?_, fun was mark => ?_⟩⟩
  · have few := s.length_dockets_le
    obtain ⟨low', high'⟩ := freeNumber_in_range (used := s.dockets.map Docket.number) s.dockets.length low high
    have fresh := freeNumber_not_mem (used := s.dockets.map Docket.number) low high (by rw [List.length_map]; omega)
    rw [List.length_map] at fresh
    refine ⟨low', high', fun d hd same => fresh (List.mem_map.2 ⟨d, hd, same⟩), fun unused => ?_⟩
    exact freeNumber_of_not_mem (by simpa using unused) _
  · obtain ⟨low', high'⟩ := freeNumber_in_range (used := s.queue.orders.map PayOrder.number) s.queue.orders.length low high
    have fresh := freeNumber_not_mem (used := s.queue.orders.map PayOrder.number) low high (by rw [List.length_map]; omega)
    rw [List.length_map] at fresh
    refine ⟨low', high', fun o ho same => fresh (List.mem_map.2 ⟨o, ho, same⟩), fun unused => ?_⟩
    exact freeNumber_of_not_mem (by simpa using unused) _
  · rw [State.dropCommitment, count]
    rfl
  · exact State.evaluatePressure_changed (s := s) (p := .high) (by simp [was]) (by simp [was, Pressure.next, mark])
  · exact State.evaluatePressure_changed (s := s) (p := .normal) (by simp [was]) (by simp [was, Pressure.next, mark])
  · exact State.evaluatePressure_same (by simp [was, Pressure.next, mark])
  · exact State.evaluatePressure_same (by simp [was, Pressure.next, mark])

/-! ### An account changed -/

theorem State.modAccount_of_held {s : State} {a : Nat} {x : Account} (h : a < 64) (held : s.accounts[a] = some x)
    (f : Account → Account) : s.modAccount a f = { s with accounts := s.accounts.set a (some (f x)) h } := by
  rw [State.modAccount, s.account_eq h, held, Option.map_some, setIfInBounds_eq_set _ _ h]

/-! ### PAY_CREDIT (R138) -/

section

variable {account method amount : Nat} {s t : State} {st : Status} {payload : List Byte} {m : PayMethod}

theorem exec_payCredit (free : s.free) (opened : s.part.state = .opened)
    (decided : decidePayCredit account method amount s.heard = (t, ⟨st, payload⟩)) :
    exec (.payCredit account method amount) s = .next (t.answered (.payCredit account method amount) st payload).transmit :=
  exec_of_decided rfl free rfl (by rw [opened]; rfl) decided

theorem decidePayCredit_of_out_of_range (opened : s.part.state = .opened)
    (bad : 64 ≤ account ∨ 2 ≤ method ∨ amount = 0 ∨ 99999999 < amount) :
    decidePayCredit account method amount s = refuse s .range := by
  unfold decidePayCredit
  rw [if_neg (not_not_intro opened)]
  split
  · rfl
  next m named =>
    have known : method < 2 := by
      rcases method with _ | _ | n
      · decide
      · decide
      · cases named
    exact if_pos (by rw [Config.maxAmount]; omega)

/-- What PAY_CREDIT of an account in range refuses, the first condition that holds (R138). -/
def State.payRefusal (s : State) (a : Account) (m : PayMethod) (amount : Nat) : Option Status :=
  if s.queue.pressure = .high then some .payoutBusy
  else if a.suspended then some .suspended
  else if !a.permits m then some .notPermitted
  else if creditTaken s.settings.cashUnit a m amount = 0 then some .range
  else none

variable (opened : s.part.state = .opened) (named : PayMethod.ofCode method = some m)
  (range : account < 64 ∧ 1 ≤ amount ∧ amount ≤ 99999999)

include opened named range

theorem decidePayCredit_of_empty (empty : s.account account = none) :
    decidePayCredit account method amount s = refuse s (if s.queue.pressure = .high then .payoutBusy else .notFound) := by
  unfold decidePayCredit
  rw [if_neg (not_not_intro opened), named]
  simp only
  rw [if_neg (by rw [Config.maxAmount]; omega), empty]
  split <;> rfl

theorem decidePayCredit_of_held {a : Account} (held : s.account account = some a) :
    decidePayCredit account method amount s =
      (s.payRefusal a m amount).elim
        (answerOk (s.payOut account m (creditTaken s.settings.cashUnit a m amount))
          (le4 (creditTaken s.settings.cashUnit a m amount) ++ le2 s.orderNumber))
        (refuse s) := by
  unfold decidePayCredit State.payRefusal
  rw [if_neg (not_not_intro opened), named]
  simp only
  rw [if_neg (by rw [Config.maxAmount]; omega), held]
  simp only
  split_ifs <;> rfl

end

/-- The state an accepted PAY_CREDIT leaves (R138). -/
theorem State.payOut_eq {s : State} {account p : Nat} {m : PayMethod} {a : Account} (h : account < 64)
    (held : s.accounts[account] = some a) :
    s.payOut account m p = State.arbitrate (State.addCommitment (State.join .queue { s with
      accounts := s.accounts.set account (some { a with credit := a.credit - p, paidToday := a.paidToday + p }) h
      queue := { s.queue with
        orders := s.queue.orders ++ [⟨s.orderNumber, account, none, m, p, 0, .waiting, none, none, 0⟩]
        nextOrder := nextNumber s.orderNumber
        flags := { s.queue.flags with orderAdded := true } } })) := by
  rw [State.payOut, State.modAccount_of_held h held]
  rfl

/-- Settles O43: past the ranges the first condition of the table that holds refuses, and else the order is made. -/
theorem payCreditMakesAnOrder : Obligations.PayCreditMakesAnOrder := by
  intro account method amount s free opened q slot taken refused
  by_cases range : 64 ≤ account ∨ 2 ≤ method ∨ amount = 0 ∨ 99999999 < amount
  · have ranged : refused = some .range := if_pos range
    refine ⟨fun st refused_ => exec_payCredit free opened ?_, fun _ a _ accepted => ?_⟩
    · obtain rfl : Status.range = st := Option.some.inj (ranged.symm.trans refused_)
      exact decidePayCredit_of_out_of_range (s := s.heard) opened range
    · exact absurd (ranged.symm.trans accepted) nofun
  have within : account < 64 ∧ 1 ≤ amount ∧ amount ≤ 99999999 := by omega
  obtain ⟨m, named, kind, cash, voucher⟩ : ∃ m, PayMethod.ofCode method = some m
      ∧ (if method = 0 then PayMethod.cash else .voucher) = m ∧ (method = 0 ↔ m = .cash) ∧ (method = 1 ↔ m = .voucher) := by
    obtain rfl | rfl : method = 0 ∨ method = 1 := by omega
    · exact ⟨.cash, rfl, rfl, by decide, by decide⟩
    · exact ⟨.voucher, rfl, rfl, by decide, by decide⟩
  have taken_ (a : Account) : taken a = creditTaken s.settings.cashUnit a m amount := by
    simp only [taken, creditTaken, cash]
    cases m
    · exact (if_pos rfl).trans (Nat.div_mul_self_eq_mod_sub_self ..)
    · exact if_neg nofun
  cases held : slot with
  | none =>
    have refusal : refused = some (if s.queue.pressure = .high then .payoutBusy else .notFound) := by
      simp only [refused, if_neg range, held]
      split <;> rfl
    refine ⟨fun st refused_ => exec_payCredit free opened ?_, fun _ a same => nomatch same⟩
    obtain rfl := Option.some.inj (refusal.symm.trans refused_)
    exact decidePayCredit_of_empty (s := s.heard) opened named within held
  | some a =>
    have refusal : refused = s.heard.payRefusal a m amount := by
      have permitted : (m = .cash ∧ (!a.cash) = true ∨ m = .voucher ∧ (!a.voucher) = true) ↔ (!a.permits m) = true := by
        cases m <;> simp [Account.permits]
      simp only [refused, if_neg range, held, Option.any_some, taken_, cash, voucher, permitted, decide_eq_true_eq]
      rfl
    have decided := decidePayCredit_of_held (s := s.heard) opened named within held
    rw [← refusal] at decided
    refine ⟨fun st refused_ => exec_payCredit free opened ?_, ?_⟩
    · rw [decided, refused_]
      rfl
    · intro h x same accepted p n paid
      obtain rfl := Option.some.inj same
      have sum : creditTaken s.heard.settings.cashUnit a m amount = p := (taken_ a).symm
      have changed := State.payOut_eq (s := s.heard) (m := m) (p := p) h ((s.account_eq h).symm.trans held)
      refine exec_payCredit free opened ?_
      rw [decided, accepted, kind, sum]
      exact congrArg (answerOk · _) changed

/-! ### ORDER_CANCEL (R139) -/

section

variable {n : Nat} {s t : State} {st : Status} {payload : List Byte}

theorem exec_orderCancel (free : s.free) (started : s.part.state ≠ .starting)
    (decided : decideOrderCancel n s.heard = (t, ⟨st, payload⟩)) :
    exec (.orderCancel n) s = .next (t.answered (.orderCancel n) st payload).transmit :=
  exec_of_decided rfl free rfl (PartState.takes_of started nofun nofun nofun nofun) decided

theorem State.order_eq_none (h : ∀ o ∈ s.queue.orders, o.number ≠ n) : s.order n = none :=
  List.find?_eq_none.2 fun o ho => by simpa using h o ho

theorem State.order_at {xs ys : List PayOrder} {o : PayOrder} (orders : s.queue.orders = xs ++ o :: ys)
    (before : ∀ x ∈ xs, x.number ≠ n) (number : o.number = n) : s.order n = some o := by
  rw [State.order, orders]
  exact find?_at (fun q hq => by simpa using before q hq) (by simpa using number)

/-- Of an order that is not pending, the history ring tells whether it has been one (R139). -/
theorem decideOrderCancel_of_absent (named : n ≠ 0) (absent : ∀ o ∈ s.queue.orders, o.number ≠ n) :
    decideOrderCancel n s = refuse s (if s.queue.history.any (fun o => o.number = n) then .badState else .notFound) := by
  rw [decideOrderCancel, if_neg named, State.order_eq_none absent]
  exact (apply_ite (refuse s) _ _ _).symm

theorem decideOrderCancel_of_serving {o : PayOrder} (named : n ≠ 0) (found : s.order n = some o) (serving : o.state = .serving) :
    decideOrderCancel n s = refuse s .badState := by
  rw [decideOrderCancel, if_neg named, found]
  exact if_neg (by simp [serving])

theorem decideOrderCancel_of_waiting {o : PayOrder} (named : n ≠ 0) (found : s.order n = some o) (waiting : o.state = .waiting) :
    decideOrderCancel n s = answerOk (s.cancelOrder o) (le4 (o.amount - o.paid) ++ le4 ((s.cancelOrder o).creditOf o.account)) := by
  rw [decideOrderCancel, if_neg named, found]
  exact if_pos waiting

/-- The state an accepted ORDER_CANCEL leaves (R130, R139). -/
theorem State.cancelOrder_eq {xs ys : List PayOrder} {o : PayOrder} {a : Account} (orders : s.queue.orders = xs ++ o :: ys)
    (before : ∀ x ∈ xs, x.number ≠ o.number) (h : o.account < 64) (held : s.accounts[o.account] = some a) :
    s.cancelOrder o = State.raiseQueue (fun f => { f with orderCancelled := true }) (State.dropCommitment { s with
      accounts := s.accounts.set o.account (some { a with
        credit := min 99999999 (a.credit + (o.amount - o.paid))
        paidToday := a.paidToday - (o.amount - o.paid) }) h
      queue := { s.queue with
        orders := xs ++ ys
        history := (s.queue.history ++ [{ o with state := .cancelled, bay := none }]).drop
          (s.queue.history.length + 1 - 8) } }) := by
  have left : s.queue.orders.eraseP (fun x => decide (x.number = o.number)) = xs ++ ys := by
    rw [orders]
    exact eraseP_at (fun q hq => by simpa using before q hq) (by simp)
  rw [State.cancelOrder, State.modAccount_of_held h held, State.retireOrder, left]
  simp only [pushCapped, List.length_append, List.length_cons, List.length_nil, Config.historyMax, satAdd, Config.maxAmount]

theorem State.dropCommitment_accounts : s.dropCommitment.accounts = s.accounts := by
  obtain ⟨f, set, -, eq⟩ := State.evaluatePressure_cases { s with queue := { s.queue with
    commitments := s.queue.commitments - 1 } }
  rw [State.dropCommitment, eq]

/-- The balance an ORDER_CANCEL answers is the one it leaves (R139). -/
theorem State.creditOf_cancelOrder {o : PayOrder} {a : Account} (h : o.account < 64) (held : s.accounts[o.account] = some a) :
    (s.cancelOrder o).creditOf o.account = min 99999999 (a.credit + (o.amount - o.paid)) := by
  rw [State.cancelOrder, State.modAccount_of_held h held, State.creditOf, State.account_eq _ h]
  simp only [State.raiseQueue_accounts, State.dropCommitment_accounts, State.retireOrder, Vector.getElem_set_self]
  rfl

end

/-- Settles O44: a number names a pending order, one in the history ring, or none. -/
theorem orderCancelReturnsTheUnpaid : Obligations.OrderCancelReturnsTheUnpaid := by
  intro n s free started
  refine ⟨fun zero => exec_orderCancel free started (if_pos zero),
    fun named absent => ⟨fun past => exec_orderCancel free started ?_, fun never => exec_orderCancel free started ?_⟩, ?_⟩
  · rw [decideOrderCancel_of_absent (s := s.heard) named absent, if_pos (by simpa using past)]
    rfl
  · rw [decideOrderCancel_of_absent (s := s.heard) named absent, if_neg (by simpa using never)]
    rfl
  intro xs o ys named orders before number
  have found : s.heard.order n = some o := State.order_at orders before number
  refine ⟨fun serving => exec_orderCancel free started (decideOrderCancel_of_serving named found serving), ?_⟩
  intro h a waiting held unpaid credited
  subst number
  have left := State.cancelOrder_eq (s := s.heard) orders before h held
  have balance := State.creditOf_cancelOrder (s := s.heard) h held
  refine exec_orderCancel free started ((decideOrderCancel_of_waiting named found waiting).trans ?_)
  rw [balance, left]
  rfl

end Sys2Proof.Machine
end

section
/-! PROOF. The container types (chapter 2): the conditions of TYPE_WRITE and the steps of classification. -/

namespace Sys2Proof.Machine

/-! ### TYPE_WRITE (R26) -/

section

variable {e : TypeEntryData} {s : State}

theorem exec_typeWrite {t : State} {st : Status} {payload : List Byte} (free : s.free) (started : s.part.state ≠ .starting)
    (decided : decideTypeWrite e s.heard = (t, ⟨st, payload⟩)) :
    exec (.typeWrite e) s = .next (t.answered (.typeWrite e) st payload).transmit :=
  exec_of_decided rfl free rfl (PartState.takes_of started nofun nofun nofun nofun) decided

theorem State.dockets_ne_nil : s.dockets ≠ [] ↔ ∃ i, (s.lane i).docket.isSome = true := by
  rw [ne_eq, State.dockets_eq_nil, not_forall]
  exact exists_congr fun i => Option.ne_none_iff_isSome

/-- The ranges R24 gives the fields of an entry, and what R23 forbids a KEG. -/
theorem entry_out_of_range : (¬ e.index < 24 ∨ ¬ (entryOf e).wellFormed = true) ↔
    24 ≤ e.index ∨ 255 < e.owner ∨ 65535 < e.tag ∨ e.lengthMax < e.lengthMin ∨ 4095 < e.lengthMax ∨ 40 < e.slots
      ∨ 65535 < e.deposit ∨ 65535 < e.bottleDeposit ∨ 1000 < e.damagedPermille ∨ 1000 < e.surplusPermille
      ∨ (e.keg = true ∧ (e.slots ≠ 0 ∨ e.bottleDeposit ≠ 0)) := by
  simp only [TypeEntry.wellFormed, Bool.and_eq_true, Bool.or_eq_true, Bool.not_eq_true', decide_eq_true_eq, not_and_or, not_or,
    not_lt, not_le, Bool.not_eq_false, or_assoc]
  rfl

theorem duplicates_entryOf (x : TypeEntry) : (entryOf e).duplicates x = true ↔
    e.enabled = true ∧ e.tag ≠ 0 ∧ (x.enabled && x.tag ≠ 0 && x.owner = e.owner && x.tag = e.tag) = true := by
  simp only [TypeEntry.duplicates, TypeEntry.tagged, Bool.and_eq_true, decide_eq_true_eq]
  simp only [entryOf, eq_comm (a := e.owner), eq_comm (a := e.tag) (b := x.tag)]
  tauto

theorem overlaps_entryOf (x : TypeEntry) : (entryOf e).overlaps x = true ↔
    e.enabled = true ∧ e.tag = 0
      ∧ (x.enabled && x.tag = 0 && x.lengthMin ≤ e.lengthMax && e.lengthMin ≤ x.lengthMax) = true := by
  simp only [TypeEntry.overlaps, TypeEntry.lengthOnly, Bool.and_eq_true, decide_eq_true_eq]
  simp only [entryOf]
  tauto

/-- Where a relation to the entry written is a condition on it and one on the other, so is a clash (R26). -/
theorem State.clashes_entryOf {r : TypeEntry → TypeEntry → Bool} {here tag : Prop} {there : TypeEntry → Bool}
    (split : ∀ x, r (entryOf e) x = true ↔ here ∧ tag ∧ there x = true) :
    s.clashes e.index r (entryOf e) = true ↔
      here ∧ tag ∧ decide (∃ j : Fin 24, j.val ≠ e.index ∧ there s.types[j] = true) = true := by
  simp only [State.clashes_iff, split, decide_eq_true_eq]
  constructor
  · rintro ⟨j, other, h, t, clash⟩
    exact ⟨h, t, j, other, clash⟩
  · rintro ⟨h, t, j, other, clash⟩
    exact ⟨j, other, h, t, clash⟩

end

/-- Settles O29: each condition of the model's table is the statement's. -/
theorem typeWriteChecksInOrder : Obligations.TypeWriteChecksInOrder := by
  intro e s free started other refused
  have decided : decideTypeWrite e s.heard = refused.elim
      (answerOk { s.heard with types := s.types.setIfInBounds e.index (entryOf e) } (b1 e.index)) (refuse s.heard) := by
    have lane (i : LaneId) : s.heard.lane i = s.lane i := rfl
    have duplicate : s.heard.clashes e.index TypeEntry.duplicates (entryOf e) = true ↔ e.enabled = true ∧ e.tag ≠ 0
        ∧ other (fun x => x.enabled && x.tag ≠ 0 && x.owner = e.owner && x.tag = e.tag) = true :=
      State.clashes_entryOf (s := s.heard) duplicates_entryOf
    have overlap : s.heard.clashes e.index TypeEntry.overlaps (entryOf e) = true ↔ e.enabled = true ∧ e.tag = 0
        ∧ other (fun x => x.enabled && x.tag = 0 && x.lengthMin ≤ e.lengthMax && e.lengthMin ≤ x.lengthMax) = true :=
      State.clashes_entryOf (s := s.heard) overlaps_entryOf
    simp only [decideTypeWrite, refused, State.dockets_ne_nil, lane, State.heard_part, entry_out_of_range, duplicate, overlap]
    split_ifs <;> rfl
  refine ⟨fun st refused_ => exec_typeWrite free started ?_, fun h accepted => exec_typeWrite free started ?_⟩
  · rw [decided, refused_]
    rfl
  · rw [decided, accepted, setIfInBounds_eq_set _ _ h]
    rfl

/-! ### Looking types up (R25, R33, R34) -/

section

variable {types : Vector TypeEntry 24} {accepts : TypeEntry → Bool}

theorem findType_eq_none (h : ∀ t : Fin 24, accepts types[t] = false) : findType types accepts = none := by
  refine List.findIdx?_eq_none_iff.2 fun x hx => ?_
  obtain ⟨t, ht, rfl⟩ := Vector.mem_iff_getElem.1 (Vector.mem_toList_iff.1 hx)
  exact h ⟨t, ht⟩

/-- An entry that is the only one accepted is the one found. -/
theorem findType_eq_some {t : Fin 24} (accepted : accepts types[t] = true)
    (unique : ∀ j : Fin 24, accepts types[j] = true → j = t) : findType types accepts = some t.val := by
  refine List.findIdx?_eq_some_iff_getElem.2 ⟨by simp, by simpa using accepted, fun j hj => ?_⟩
  have earlier : j < 24 := hj.trans t.isLt
  intro found
  exact absurd (congrArg Fin.val (unique ⟨j, earlier⟩ (by simpa using found))) hj.ne

theorem any_types_iff : types.toList.any accepts = true ↔ ∃ t : Fin 24, accepts types[t] = true := by
  simp only [List.any_eq_true, Vector.mem_toList_iff, Vector.mem_iff_getElem]
  constructor
  · rintro ⟨x, ⟨t, ht, rfl⟩, h⟩
    exact ⟨⟨t, ht⟩, h⟩
  · rintro ⟨t, h⟩
    exact ⟨_, ⟨t, t.isLt, rfl⟩, h⟩

end

/-! ### The steps of classification (R31 to R34, R36) -/

section

variable {types : Vector TypeEntry 24} {docket : Option Docket} {p : Passage} {n : Nat} {g : Tag}

theorem TableConsistent.tagged_unique (consistent : TableConsistent types) {a b : Fin 24}
    (ha : types[a].tagged = true) (hb : types[b].tagged = true) (owner : types[a].owner = types[b].owner)
    (tag : types[a].tag = types[b].tag) : a = b := by
  by_contra apart
  obtain ⟨distinct, -⟩ := consistent a b apart
  rw [TypeEntry.duplicates, ha, hb, owner, tag] at distinct
  simp at distinct

theorem TableConsistent.length_unique (consistent : TableConsistent types) {a b : Fin 24}
    (ha : types[a].lengthOnly = true) (hb : types[b].lengthOnly = true) (fits_a : types[a].fitsLength n = true)
    (fits_b : types[b].fitsLength n = true) : a = b := by
  by_contra apart
  obtain ⟨-, disjoint⟩ := consistent a b apart
  simp only [TypeEntry.fitsLength, Bool.and_eq_true, decide_eq_true_eq] at fits_a fits_b
  simp only [TypeEntry.overlaps, ha, hb, Bool.true_and, Bool.and_eq_false_iff, decide_eq_false_iff_not] at disjoint
  omega

theorem classifyTagged_of_type (consistent : TableConsistent types) {t : Fin 24} (tagged : types[t].tagged = true)
    (owner : types[t].owner = g.owner) (code : types[t].tag = g.code) :
    classifyTagged types g n = if types[t].fitsLength n then .ok t.val else .error .lengthMismatch := by
  have found : findType types (fun e => e.tagged && e.owner = g.owner && e.tag = g.code) = some t.val := by
    refine findType_eq_some (by simp only [tagged, owner, code, decide_true, Bool.and_self]) fun j hj => ?_
    simp only [Bool.and_eq_true, decide_eq_true_eq] at hj
    obtain ⟨⟨tagged', owner'⟩, code'⟩ := hj
    exact consistent.tagged_unique tagged' tagged (owner'.trans owner.symm) (code'.trans code.symm)
  rw [classifyTagged, found]
  simp

theorem classifyTagged_of_none
    (absent : ∀ t : Fin 24, ¬ (types[t].tagged = true ∧ types[t].owner = g.owner ∧ types[t].tag = g.code)) :
    classifyTagged types g n = if ∃ t : Fin 24, types[t].tagged = true ∧ types[t].owner = g.owner then .error .unknownType
      else .error .foreign := by
  have none_ : findType types (fun e => e.tagged && e.owner = g.owner && e.tag = g.code) = none :=
    findType_eq_none fun t => Bool.eq_false_iff.2 fun h => absent t (by simpa [and_assoc] using h)
  rw [classifyTagged, none_]
  simp only [any_types_iff, Bool.and_eq_true, decide_eq_true_eq]

theorem classifyUntagged_of_type (consistent : TableConsistent types) {t : Fin 24} (length : types[t].lengthOnly = true)
    (fits : types[t].fitsLength n = true) : classifyUntagged types n = .ok t.val := by
  have found : findType types (fun e => e.lengthOnly && e.fitsLength n) = some t.val := by
    refine findType_eq_some (by simp only [length, fits, Bool.and_self]) fun j hj => ?_
    obtain ⟨length', fits'⟩ := Bool.and_eq_true_iff.1 hj
    exact consistent.length_unique length' length fits' fits
  rw [classifyUntagged, found]

theorem classifyUntagged_of_none (absent : ∀ t : Fin 24, types[t].lengthOnly = true → types[t].fitsLength n = false) :
    classifyUntagged types n = .error .untagged := by
  have none_ : findType types (fun e => e.lengthOnly && e.fitsLength n) = none :=
    findType_eq_none fun t => by simpa using absent t
  rw [classifyUntagged, none_]

end

/-- The key a record gets that is of the type at an index (R36). -/
def Passage.runKey (types : Vector TypeEntry 24) (p : Passage) (t : Nat) : RunKey :=
  ⟨t, if p.damaged then .damaged else .good, ((types[t]?).getD TypeEntry.default).bottlesOf p.necks, .auto⟩

section

variable {types : Vector TypeEntry 24} {docket : Option Docket} {p : Passage} {n : Nat} {g : Tag} {e : TypeEntry}

theorem recognise_tagged (length : p.length = some n) (tag : p.tag = some g) :
    recognise types p = (classifyTagged types g n).map (p.runKey types) := by
  rw [recognise, tag, length]
  rfl

theorem recognise_untagged (length : p.length = some n) (tag : p.tag = none) :
    recognise types p = (classifyUntagged types n).map (p.runKey types) := by
  rw [recognise, tag, length]
  rfl

theorem TypeEntry.tagged_iff : e.tagged = true ↔ e.enabled = true ∧ e.tag ≠ 0 := by simp [TypeEntry.tagged]

theorem TypeEntry.lengthOnly_iff : e.lengthOnly = true ↔ e.enabled = true ∧ e.tag = 0 := by simp [TypeEntry.lengthOnly]

theorem TypeEntry.fitsLength_iff : e.fitsLength n = true ↔ e.lengthMin ≤ n ∧ n ≤ e.lengthMax := by
  simp [TypeEntry.fitsLength]

end

/-- Settles O31: steps 1 and 2 stop a record or leave it to the lookup of its type, which R25 lets have one answer. -/
theorem classificationSteps : Obligations.ClassificationSteps := by
  intro types docket p n consistent length closed key
  have takes : takesContainers docket = !closed := by cases docket <;> simp [takesContainers, closed]
  have keyed (t : Fin 24) : p.runKey types t.val = key t := by simp [Passage.runKey, key, TypeEntry.bottlesOf]
  refine ⟨fun mark => ?_, fun mark => ?_, fun steady late => ?_, fun steady taking => ?_⟩
  · rw [classifyKey, mark]
    rfl
  · rw [classifyKey, mark]
    rfl
  · rw [classifyKey, steady, takes, late]
    rfl
  have recognised : classifyKey types docket p = recognise types p := by
    rw [classifyKey, steady, takes, taking]
    rfl
  rw [recognised]
  refine ⟨fun g tag => ?_, fun tag => ?_⟩
  · rw [recognise_tagged length tag]
    refine ⟨fun t enabled kind owner code => ?_, fun absent => ?_⟩
    · rw [classifyTagged_of_type consistent (TypeEntry.tagged_iff.2 ⟨enabled, kind⟩) owner code, ← keyed]
      refine ⟨fun fits => ?_, fun off => ?_⟩
      · rw [if_pos (TypeEntry.fitsLength_iff.2 fits)]
        rfl
      · rw [if_neg (fun fits => by have := TypeEntry.fitsLength_iff.1 fits; omega)]
        rfl
    · rw [classifyTagged_of_none fun t h => absent t (by simpa only [TypeEntry.tagged_iff, and_assoc] using h)]
      simp only [TypeEntry.tagged_iff, and_assoc]
      refine ⟨fun owned => ?_, fun foreign => ?_⟩
      · rw [if_pos owned]
        rfl
      · rw [if_neg (not_exists.2 foreign)]
        rfl
  · rw [recognise_untagged length tag]
    refine ⟨fun t enabled kind low high => ?_, fun absent => ?_⟩
    · rw [classifyUntagged_of_type consistent (TypeEntry.lengthOnly_iff.2 ⟨enabled, kind⟩)
        (TypeEntry.fitsLength_iff.2 ⟨low, high⟩), ← keyed]
      rfl
    · rw [classifyUntagged_of_none fun t only => Bool.eq_false_iff.2 fun fits => ?_]
      · rfl
      · obtain ⟨enabled, kind⟩ := TypeEntry.lengthOnly_iff.1 only
        obtain ⟨low, high⟩ := TypeEntry.fitsLength_iff.1 fits
        exact (absent t enabled kind).elim (Nat.not_lt.2 low) (Nat.not_lt.2 high)

end Sys2Proof.Machine
end

section
/-! PROOF. The plan of a docket (chapter 5, section 5.4): reservations, commits and releases. -/

namespace Sys2Proof.Machine

/-! ### The reservation check (R78, R79) -/

section

variable {d : Docket} {k : RunKey}

/-- The docket with an unmade entry begun and a run reserved for it (R79). -/
def Docket.begun (k : RunKey) (d : Docket) : Docket :=
  { d with plan := d.plan ++ [⟨d.nextEntry, k, none, 1⟩], reserved := d.reserved + 1, nextEntry := d.nextEntry + 1 }

theorem Docket.reserveRun_room (room : d.runs.length + d.reserved < 48) : d.reserveRun k = some (d.begun k, d.nextEntry) :=
  if_pos (decide_eq_true room)

theorem Docket.reserveRun_full (full : ¬ d.runs.length + d.reserved < 48) : d.reserveRun k = none :=
  if_neg fun room => full (of_decide_eq_true room)

theorem Docket.tail_of_entry {es : List PlanEntry} {e : PlanEntry} (plan : d.plan = es ++ [e]) :
    d.tail = some ⟨e.key, d.planned e, .inl e.name⟩ := by
  rw [Docket.tail, plan, List.getLast?_concat]

theorem Docket.tail_of_run {rs : List Run} {r : Run} (plan : d.plan = []) (runs : d.runs = rs ++ [r]) :
    d.tail = some ⟨r.key, r.count, .inr rs.length⟩ := by
  rw [Docket.tail, plan, runs, List.getLast?_concat]
  simp

theorem Docket.reserve_of_apart {t : Tail} (tail : d.tail = some t) (apart : t.key ≠ k ∨ 255 ≤ t.planned) :
    d.reserve k = d.reserveRun k := by
  rw [Docket.reserve, tail]
  refine if_neg ?_
  simp only [Tail.joins, Config.runCountMax, Bool.and_eq_true, decide_eq_true_eq]
  rintro ⟨key, count⟩
  exact apart.elim (· key) (Nat.not_le.2 (of_decide_eq_true count))

theorem Docket.reserve_of_no_tail (tail : d.tail = none) : d.reserve k = d.reserveRun k := by
  rw [Docket.reserve, tail]

theorem Tail.joins_of {t : Tail} (key : t.key = k) (count : t.planned < 255) : t.joins k = true := by
  rw [Tail.joins, key, Config.runCountMax]
  simpa using count

theorem Docket.reserve_joins_entry {t : Tail} {n : Nat} (tail : d.tail = some t) (joins : t.joins k = true)
    (entry : t.entry = .inl n) :
    d.reserve k = some ({ d with
      plan := modifyLast (fun e => e.name = n) (fun e => { e with pending := e.pending + 1 }) d.plan }, n) := by
  rw [Docket.reserve, tail]
  simp only [joins, if_true, entry]

theorem Docket.reserve_joins_run {t : Tail} {run : Nat} (tail : d.tail = some t) (joins : t.joins k = true)
    (entry : t.entry = .inr run) : d.reserve k = some (d.newEntry k (some run), d.nextEntry) := by
  rw [Docket.reserve, tail]
  simp only [joins, if_true, entry]

/-- A record that joins the newest plan entry (R79). -/
theorem Docket.reserve_entry {es : List PlanEntry} {e : PlanEntry} (plan : d.plan = es ++ [e]) (key : e.key = k)
    (count : d.planned e < 255) :
    d.reserve k = some ({ d with plan := es ++ [{ e with pending := e.pending + 1 }] }, e.name) := by
  have joined : modifyLast (fun x => decide (x.name = e.name)) (fun x => { x with pending := x.pending + 1 }) d.plan
      = es ++ [{ e with pending := e.pending + 1 }] := by
    rw [plan]
    exact modifyLast_at (ys := []) (by simp) (by simp)
  rw [Docket.reserve_joins_entry (Docket.tail_of_entry plan) (Tail.joins_of key count) rfl, joined]

/-- A record that joins the last run of a docket with nothing planned (R79). -/
theorem Docket.reserve_run {rs : List Run} {r : Run} (plan : d.plan = []) (runs : d.runs = rs ++ [r]) (key : r.key = k)
    (count : r.count < 255) :
    d.reserve k = some ({ d with plan := [⟨d.nextEntry, k, some rs.length, 1⟩], nextEntry := d.nextEntry + 1 }, d.nextEntry) := by
  rw [Docket.reserve_joins_run (Docket.tail_of_run plan runs) (Tail.joins_of key count) rfl]
  simp only [Docket.newEntry, plan, List.nil_append]

theorem Docket.planned_eq (e : PlanEntry) :
    d.planned e = (match e.target with | some t => (d.runs[t]?.map Run.count).getD 0 | none => 0) + e.pending := by
  rw [Docket.planned]
  cases e.target <;> rfl

/-! ### Commits and releases (R80, R82) -/

variable {es fs : List PlanEntry} {e : PlanEntry}

/-- The entries around `e` when one of its records has gone and its target is `target` (R80, R82). -/
def PlanEntry.gone (e : PlanEntry) (target : Option Nat) : List PlanEntry :=
  if e.pending = 1 then [] else [{ e with target := target, pending := e.pending - 1 }]

theorem Docket.Sound.first_of_name (sound : d.Sound) (plan : d.plan = es ++ e :: fs) : ∀ q ∈ es, q.name ≠ e.name := by
  obtain ⟨-, -, -, names, -, -⟩ := sound
  rw [plan, List.map_append, List.map_cons] at names
  intro q hq same
  exact (List.nodup_append.1 names).2.2 _ (List.mem_map_of_mem hq) _ (by simp) same

theorem Docket.Sound.dropPending_plan (sound : d.Sound) (plan : d.plan = es ++ e :: fs) (target : Option Nat) :
    dropPending e.name (es ++ { e with target := target } :: fs) = es ++ e.gone target ++ fs := by
  have first := sound.first_of_name plan
  obtain ⟨-, -, -, -, -, each⟩ := sound
  rw [plan] at each
  have pending : ∀ q ∈ es ++ fs, 1 ≤ q.pending := fun q hq => (each q (by
    simp only [List.mem_append, List.mem_cons] at hq ⊢; tauto)).2.1
  have here : 1 ≤ e.pending := (each e (by simp)).2.1
  rw [dropPending_at (e := { e with target := target }) first pending, PlanEntry.gone]
  by_cases one : e.pending = 1
  · rw [if_pos one, if_neg (by simp [one])]
  · rw [if_neg one, if_pos (show 1 < e.pending by omega)]

theorem Docket.Sound.find?_plan (sound : d.Sound) (plan : d.plan = es ++ e :: fs) :
    d.plan.find? (fun x => decide (x.name = e.name)) = some e := by
  rw [plan]
  exact find?_at (fun q hq => by simpa using sound.first_of_name plan q hq) (by simp)

theorem Docket.Sound.commit_made (sound : d.Sound) (plan : d.plan = es ++ e :: fs) {t : Nat} (target : e.target = some t) :
    d.commit e.name = { d with
      runs := d.runs.modify t fun r => { r with count := r.count + 1 }
      plan := es ++ e.gone (some t) ++ fs
      accepted := d.accepted + 1 } := by
  have dropped : dropPending e.name d.plan = es ++ e.gone (some t) ++ fs := by
    rw [plan, ← target]
    exact sound.dropPending_plan plan e.target
  rw [Docket.commit, sound.find?_plan plan]
  simp only [target, dropped]

theorem Docket.Sound.commit_unmade (sound : d.Sound) (plan : d.plan = es ++ e :: fs) (target : e.target = none) :
    d.commit e.name = { d with
      runs := d.runs ++ [⟨e.key, 1⟩]
      plan := es ++ e.gone (some d.runs.length) ++ fs
      reserved := d.reserved - 1
      accepted := d.accepted + 1 } := by
  have made : modifyFirst (fun x => decide (x.name = e.name)) (fun x => { x with target := some d.runs.length }) d.plan
      = es ++ { e with target := some d.runs.length } :: fs := by
    rw [plan]
    exact modifyFirst_at (fun q hq => by simpa using sound.first_of_name plan q hq) (by simp)
  rw [Docket.commit, sound.find?_plan plan]
  simp only [target, made, sound.dropPending_plan plan]

theorem Docket.Sound.release_eq (sound : d.Sound) (plan : d.plan = es ++ e :: fs) :
    d.release e.name = { d with
      plan := es ++ e.gone e.target ++ fs
      reserved := if e.target = none ∧ e.pending = 1 then d.reserved - 1 else d.reserved } := by
  have dropped : dropPending e.name d.plan = es ++ e.gone e.target ++ fs := by
    rw [plan]
    exact sound.dropPending_plan plan e.target
  have last : (e.pending ≤ 1 ∧ e.target.isNone = true) ↔ e.target = none ∧ e.pending = 1 := by
    obtain ⟨-, -, -, -, -, each⟩ := sound
    have here : 1 ≤ e.pending := (each e (by simp [plan])).2.1
    rw [Option.isNone_iff_eq_none]
    exact ⟨fun ⟨few, none_⟩ => ⟨none_, by omega⟩, fun ⟨none_, one⟩ => ⟨one.le, none_⟩⟩
  rw [Docket.release, sound.find?_plan plan]
  simp only [dropped, last]

end

/-- Settles O33: the tail decides a reservation, and the entry of a name decides a commit and a release. -/
theorem planReservesCommitsReleases : Obligations.PlanReservesCommitsReleases := by
  refine ⟨fun d k => ⟨fun es e plan => ?_, fun rs r plan runs => ?_, fun plan runs => ?_⟩, fun d es e fs sound plan => ?_⟩
  · have tail := Docket.tail_of_entry plan
    have planned := d.planned_eq e
    refine ⟨fun key count => Docket.reserve_entry plan key (planned ▸ count), fun apart room => ?_, fun apart full => ?_⟩
    · rw [Docket.reserve_of_apart tail (planned ▸ apart), Docket.reserveRun_room room]
      rfl
    · rw [Docket.reserve_of_apart tail (planned ▸ apart), Docket.reserveRun_full full]
  · have tail := Docket.tail_of_run plan runs
    refine ⟨fun key count => Docket.reserve_run plan runs key count, fun apart room => ?_, fun apart full => ?_⟩
    · rw [Docket.reserve_of_apart tail apart, Docket.reserveRun_room room]
      rfl
    · rw [Docket.reserve_of_apart tail apart, Docket.reserveRun_full full]
  · have tail : d.tail = none := by rw [Docket.tail, plan, runs]; rfl
    rw [Docket.reserve_of_no_tail tail]
    exact ⟨Docket.reserveRun_room, Docket.reserveRun_full⟩
  · exact ⟨fun t target => sound.commit_made plan target, sound.commit_unmade plan, sound.release_eq plan⟩

end Sys2Proof.Machine
end

section
/-! PROOF. Adjusting a docket by hand (chapter 5, section 5.5). -/

namespace Sys2Proof.Machine

/-! ### Adding (R84) -/

section

variable {d : Docket} {k : RunKey} {n : Nat} {rs : List Run} {x : Run}

theorem modify_last {α : Type} (f : α → α) (xs : List α) (x : α) : (xs ++ [x]).modify xs.length f = xs ++ [f x] := by
  induction xs with
  | nil => rfl
  | cons a as ih => simpa using ih

/-- The last run takes all of it. -/
theorem Docket.add_fits (runs : d.runs = rs ++ [x]) (key : x.key = k) (some_ : 0 < n) (fits : x.count + n ≤ 255) :
    d.add k n = { d with runs := rs ++ [{ x with count := x.count + n }], accepted := d.accepted + n } := by
  have taken : min n (d.lastRoom k) = n := by
    rw [Docket.lastRoom, runs, List.getLast?_concat]
    simp only [key, if_true, Config.runCountMax]
    omega
  have risen : d.runs.modify (d.runs.length - 1) (fun r => { r with count := r.count + n })
      = rs ++ [{ x with count := x.count + n }] := by
    rw [runs, List.length_append, List.length_singleton, Nat.add_sub_cancel, modify_last]
  simp only [Docket.add, taken, if_pos some_, if_neg (Nat.lt_irrefl n), risen]

/-- The last run takes what it can, and the rest goes into a run of its own. -/
theorem Docket.add_splits (runs : d.runs = rs ++ [x]) (key : x.key = k) (room : x.count < 255) (more : 255 < x.count + n) :
    d.add k n = { d with
      runs := rs ++ [{ x with count := 255 }] ++ [⟨k, x.count + n - 255⟩], accepted := d.accepted + n } := by
  have taken : min n (d.lastRoom k) = 255 - x.count := by
    rw [Docket.lastRoom, runs, List.getLast?_concat]
    simp only [key, if_true, Config.runCountMax]
    omega
  have risen : d.runs.modify (d.runs.length - 1) (fun r => { r with count := r.count + (255 - x.count) })
      = rs ++ [{ x with count := 255 }] := by
    rw [runs, List.length_append, List.length_singleton, Nat.add_sub_cancel, modify_last,
      Nat.add_sub_cancel' room.le]
  have rest : n - (255 - x.count) = x.count + n - 255 := by omega
  simp only [Docket.add, taken, if_pos (show 0 < 255 - x.count by omega), if_pos (show 255 - x.count < n by omega), risen, rest]

/-- A last run that takes nothing: one of another key, or a full one. -/
def Docket.lastClosed (d : Docket) (k : RunKey) : Prop :=
  d.runs = [] ∨ ∃ rs x, d.runs = rs ++ [x] ∧ (x.key ≠ k ∨ x.count = 255)

theorem Docket.add_begins (some_ : 0 < n) (closed : d.lastClosed k) :
    d.add k n = { d with runs := d.runs ++ [⟨k, n⟩], accepted := d.accepted + n } := by
  have none_ : d.lastRoom k = 0 := by
    rw [Docket.lastRoom]
    rcases closed with empty | ⟨rs, x, runs, shut⟩
    · rw [empty]
      rfl
    · rw [runs, List.getLast?_concat]
      simp only [Config.runCountMax]
      split
      next key => rw [shut.resolve_left (not_not_intro key)]
      · rfl
  simp only [Docket.add, none_, Nat.min_zero, if_neg (Nat.lt_irrefl 0), if_pos some_, Nat.sub_zero]

theorem Docket.needsRun_fits (runs : d.runs = rs ++ [x]) (key : x.key = k) (fits : x.count + n ≤ 255) :
    d.needsRun k n = false := by
  rw [Docket.needsRun, runs, List.getLast?_concat]
  simp [key, Config.runCountMax, fits]

theorem Docket.needsRun_over (more : d.runs = [] ∨ ∃ rs x, d.runs = rs ++ [x] ∧ (x.key ≠ k ∨ 255 < x.count + n)) :
    d.needsRun k n = true := by
  rw [Docket.needsRun]
  rcases more with empty | ⟨rs, x, runs, shut⟩
  · rw [empty]
    rfl
  · rw [runs, List.getLast?_concat]
    simp only [Bool.not_eq_true', Bool.and_eq_false_iff, decide_eq_false_iff_not, Nat.not_le]
    exact shut

end

/-! ### Removing (R85, R86) -/

section

variable {hit : Run → Bool}

/-- The containers of the runs a removal takes from. -/
def heldBy (hit : Run → Bool) (rs : List Run) : Nat := ((rs.filter hit).map Run.count).sum

/-- A run that a removal has emptied, or has not taken from. -/
def Run.emptied (hit : Run → Bool) (r : Run) : Run := if hit r then { r with count := 0 } else r

/-- Runs that hold no more than is to be removed are emptied. -/
theorem takeNewest_append {n : Nat} {zs : List Run} (ws : List Run) (few : heldBy hit zs ≤ n) :
    takeNewest hit n (zs ++ ws) = zs.map (Run.emptied hit) ++ takeNewest hit (n - heldBy hit zs) ws := by
  induction zs generalizing n with
  | nil => rfl
  | cons z zs ih =>
    rw [List.cons_append, takeNewest, List.map_cons, Run.emptied]
    by_cases h : hit z = true
    · have here : heldBy hit (z :: zs) = z.count + heldBy hit zs := by simp [heldBy, h]
      rw [here] at few
      rw [if_pos h, if_pos h, ih (by omega), here, Nat.sub_sub, Nat.sub_eq_zero_of_le (by omega)]
      rfl
    · have here : heldBy hit (z :: zs) = heldBy hit zs := by simp [heldBy, h]
      rw [here] at few
      rw [if_neg h, if_neg h, ih few, here]
      rfl

theorem takeNewest_zero (zs : List Run) : takeNewest hit 0 zs = zs := by
  induction zs with
  | nil => rfl
  | cons z zs ih => rw [takeNewest, Nat.zero_sub, ih, Nat.sub_zero, ite_self]

theorem heldBy_reverse (rs : List Run) : heldBy hit rs.reverse = heldBy hit rs := by
  rw [heldBy, heldBy, List.filter_reverse, List.map_reverse, List.sum_reverse]

variable {n : Nat} {xs ys : List Run} {x : Run}

/-- The run list after a removal, before its emptied runs are deleted: `x` is the run it stops in. -/
theorem takeNewest_stops (stop : hit x = true) (before : heldBy hit ys < n) (enough : n ≤ heldBy hit (x :: ys)) :
    (takeNewest hit n (xs ++ x :: ys).reverse).reverse
      = xs ++ { x with count := heldBy hit (x :: ys) - n } :: ys.map (Run.emptied hit) := by
  have here : heldBy hit (x :: ys) = x.count + heldBy hit ys := by simp [heldBy, stop]
  rw [here] at enough ⊢
  have reversed : (xs ++ x :: ys).reverse = ys.reverse ++ x :: xs.reverse := by simp
  rw [reversed, takeNewest_append _ (by rw [heldBy_reverse]; exact before.le), heldBy_reverse, takeNewest, if_pos stop,
    Nat.sub_eq_zero_of_le (show n - heldBy hit ys ≤ x.count by omega), takeNewest_zero]
  have rest : x.count - (n - heldBy hit ys) = x.count + heldBy hit ys - n := by omega
  simp [rest]

/-- The runs a removal leaves of those after the one it stops in. -/
theorem filter_emptied {zs : List Run} (used : ∀ r ∈ zs, 1 ≤ r.count) :
    (zs.map (Run.emptied hit)).filter (fun r => decide (0 < r.count)) = zs.filter (! hit ·) := by
  induction zs with
  | nil => rfl
  | cons z zs ih =>
    have rest := ih fun r hr => used r (List.mem_cons_of_mem _ hr)
    have here : 1 ≤ z.count := used z List.mem_cons_self
    rw [List.map_cons, List.filter_cons, List.filter_cons, rest, Run.emptied]
    by_cases h : hit z = true
    · simp [h]
    · simp [h, show 0 < z.count from here]

theorem filter_used {zs : List Run} (used : ∀ r ∈ zs, 1 ≤ r.count) : zs.filter (fun r => decide (0 < r.count)) = zs :=
  List.filter_eq_self.2 fun r hr => decide_eq_true (used r hr)

/-- A target after the run a removal stops in goes where its run goes, and is deleted with it. -/
theorem retarget_behind (front : ∀ r ∈ xs, 1 ≤ r.count) (back : ∀ r ∈ ys, 1 ≤ r.count) (rest j : Nat) :
    retarget (xs ++ { x with count := rest } :: ys.map (Run.emptied hit)) (xs.length + 1 + j) =
      if ((ys[j]?).any fun r => !hit r) = true
        then some (xs.length + (if rest = 0 then [] else [{ x with count := rest }]).length
          + ((ys.take j).filter (! hit ·)).length)
      else none := by
  have stays : ((xs ++ { x with count := rest } :: ys.map (Run.emptied hit)).take (xs.length + 1 + j)).filter
      (fun r => decide (0 < r.count))
        = xs ++ (if rest = 0 then [] else [{ x with count := rest }]) ++ (ys.take j).filter (! hit ·) := by
    rw [Nat.add_assoc, Nat.add_comm 1 j, List.take_length_add_append, List.take_succ_cons, ← List.map_take, List.filter_append,
      List.filter_cons, filter_used front, filter_emptied fun r hr => back r (List.mem_of_mem_take hr), List.append_assoc]
    by_cases gone : rest = 0
    · simp [gone]
    · simp [gone, Nat.pos_of_ne_zero gone]
  have index : xs.length + 1 + j - xs.length = j + 1 := by omega
  rw [retarget, stays, List.getElem?_append_right (by omega), index, List.getElem?_cons_succ, List.getElem?_map]
  cases there : ys[j]? with
  | none => rfl
  | some r =>
    have pos : 0 < r.count := back r (List.mem_of_getElem? there)
    by_cases h : hit r = true
    · simp [Run.emptied, h]
    · simp [Run.emptied, h, pos, Nat.add_assoc]

/-- Where a target stands after a removal that stops in `x` and leaves `rest` of it (R86). -/
theorem retarget_removed (used : ∀ r ∈ xs ++ x :: ys, 1 ≤ r.count) (rest k : Nat) :
    retarget (xs ++ { x with count := rest } :: ys.map (Run.emptied hit)) k =
      if k < xs.length then some k
      else if k = xs.length then (if rest = 0 then none else some k)
      else if ((ys[k - xs.length - 1]?).any fun r => !hit r) = true
        then some (xs.length + (if rest = 0 then [] else [{ x with count := rest }]).length
          + ((ys.take (k - xs.length - 1)).filter (! hit ·)).length)
      else none := by
  have front : ∀ r ∈ xs, 1 ≤ r.count := fun r hr => used r (by simp [hr])
  have back : ∀ r ∈ ys, 1 ≤ r.count := fun r hr => used r (by simp [hr])
  by_cases before : k < xs.length
  · rw [if_pos before, retarget, List.getElem?_append_left before, List.getElem?_eq_getElem before,
      List.take_append_of_le_length before.le]
    simp only
    rw [if_pos (show 0 < xs[k].count from front _ (List.getElem_mem before)),
      filter_used fun r hr => front r (List.mem_of_mem_take hr), List.length_take, Nat.min_eq_left before.le]
  by_cases stop : k = xs.length
  · rw [if_neg before, if_pos stop, retarget, stop, List.getElem?_append_right (Nat.le_refl _), Nat.sub_self,
      List.getElem?_cons_zero, List.take_left, filter_used front]
    by_cases gone : rest = 0
    · simp [gone]
    · simp [gone, Nat.pos_of_ne_zero gone]
  · obtain ⟨j, rfl⟩ : ∃ j, k = xs.length + 1 + j := ⟨k - xs.length - 1, by omega⟩
    have index : xs.length + 1 + j - xs.length - 1 = j := by omega
    rw [if_neg before, if_neg stop, index]
    exact retarget_behind front back rest j

end

/-! ### DOCKET_ADJUST (R83) -/

section

variable {lane type condition bottles : Nat} {delta : Int} {s t : State} {st : Status} {payload : List Byte}

theorem exec_docketAdjust (free : s.free) (started : s.part.state ≠ .starting)
    (decided : decideDocketAdjust lane type condition bottles delta s.heard = (t, ⟨st, payload⟩)) :
    exec (.docketAdjust lane type condition bottles delta) s
      = .next (t.answered (.docketAdjust lane type condition bottles delta) st payload).transmit :=
  exec_of_decided rfl free rfl (PartState.takes_of started nofun nofun nofun nofun) decided

theorem Condition.ofCode_of_lt (h : condition < 2) :
    Condition.ofCode condition = some (if condition = 0 then .good else .damaged) := by
  obtain rfl | rfl : condition = 0 ∨ condition = 1 := by omega
  · rfl
  · rfl

theorem Condition.ofCode_of_le (h : 2 ≤ condition) : Condition.ofCode condition = none := by
  match condition, h with
  | n + 2, _ => rfl

theorem decideDocketAdjust_of_out_of_range (bad : 4 ≤ lane ∨ 24 ≤ type ∨ 2 ≤ condition ∨ 40 < bottles ∨ delta < -255
    ∨ 255 < delta ∨ delta = 0) : decideDocketAdjust lane type condition bottles delta s = refuse s .range := by
  rw [decideDocketAdjust]
  split
  next i c lane_ condition_ =>
    have lane : ¬ 4 ≤ lane := fun h => by rw [laneOf_none h] at lane_; cases lane_
    have condition : ¬ 2 ≤ condition := fun h => by rw [Condition.ofCode_of_le h] at condition_; cases condition_
    exact if_pos (by omega)
  · rfl

variable {i : LaneId} {c : Condition} (named : Condition.ofCode condition = some c)
  (range : type < 24 ∧ bottles ≤ 40 ∧ -255 ≤ delta ∧ delta ≤ 255 ∧ delta ≠ 0)

include named range

theorem decideDocketAdjust_of_no_docket (absent : (s.lane i).docket = none) :
    decideDocketAdjust i.val type condition bottles delta s = refuse s .noDocket := by
  rw [decideDocketAdjust, laneOf_val, named]
  simp only
  rw [if_neg (by omega), absent]

variable {d : Docket} (docket : (s.lane i).docket = some d)

include docket

theorem decideDocketAdjust_of_closing (closing : d.state = .closing) :
    decideDocketAdjust i.val type condition bottles delta s = refuse s .badState := by
  rw [decideDocketAdjust, laneOf_val, named]
  simp only
  rw [if_neg (by omega), docket]
  exact if_pos closing

variable (taking : d.state ≠ .closing)

include taking

theorem decideDocketAdjust_of_type_refused (up : 0 < delta)
    (bad : (s.type type).enabled = false ∨ (s.type type).slots < bottles) :
    decideDocketAdjust i.val type condition bottles delta s = refuse s .range := by
  rw [decideDocketAdjust, laneOf_val, named]
  simp only
  rw [if_neg (by omega), docket]
  simp only
  rw [if_neg taking, if_pos up, if_pos (by simpa using bad)]

/-- Containers added to a docket of a type that takes them: with no room for the run they need, DOCKET_FULL (R83, R84). -/
theorem decideDocketAdjust_of_added (up : 0 < delta) (enabled : (s.type type).enabled = true)
    (slots : bottles ≤ (s.type type).slots) :
    decideDocketAdjust i.val type condition bottles delta s =
      if d.needsRun ⟨type, c, bottles, .manual⟩ delta.toNat = true ∧ d.hasRoom = false then refuse s .docketFull
      else adjusted i (d.add ⟨type, c, bottles, .manual⟩ delta.toNat) s := by
  rw [decideDocketAdjust, laneOf_val, named]
  simp only
  rw [if_neg (by omega), docket]
  simp only
  rw [if_neg taking, if_pos up, if_neg (by simpa [enabled] using slots)]
  simp only [Bool.and_eq_true, Bool.not_eq_true']

theorem decideDocketAdjust_of_removed (down : delta < 0) :
    decideDocketAdjust i.val type condition bottles delta s =
      if d.holds type c bottles < (-delta).toNat then refuse s .short
      else adjusted i (d.remove (Run.isOf type c bottles) (-delta).toNat) s := by
  rw [decideDocketAdjust, laneOf_val, named]
  simp only
  rw [if_neg (by omega), docket]
  simp only
  rw [if_neg taking, if_neg (by omega)]

end

theorem adjusted_eq {s : State} {i : LaneId} {d : Docket} (docket : (s.lane i).docket = some d) (d' : Docket) :
    adjusted i d' s = answerOk (s.modLane i fun l => { l with docket := some d' }) (le2 d'.accepted ++ [byteOf d'.runs.length]) := by
  have changed : s.modDocket i (fun _ => d') = s.modLane i fun l => { l with docket := some d' } :=
    State.modLane_congr (by rw [docket]; rfl)
  rw [adjusted, changed]
  rfl

/-- Settles O34: additions meet the last run, removals the runs from the newest on. -/
theorem docketAdjusts : Obligations.DocketAdjusts := by
  refine ⟨fun lane type condition bottles delta s free started => ?_,
    fun i t condition bottles n d s free started condition_ bottles_ low high docket taking used => ?_⟩
  · intro c r
    refine ⟨fun bad => exec_docketAdjust free started (decideDocketAdjust_of_out_of_range bad), ?_⟩
    rintro i t rfl rfl condition_ bottles_ low high nonzero
    have named := Condition.ofCode_of_lt condition_
    have range : t.val < 24 ∧ bottles ≤ 40 ∧ -255 ≤ delta ∧ delta ≤ 255 ∧ delta ≠ 0 := ⟨t.isLt, bottles_, low, high, nonzero⟩
    refine ⟨fun absent => exec_docketAdjust free started (decideDocketAdjust_of_no_docket (s := s.heard) named range absent),
      fun d docket closing =>
        exec_docketAdjust free started (decideDocketAdjust_of_closing (s := s.heard) named range docket closing), ?_⟩
    rintro d n docket taking rfl key added
    have some_ : 0 < n := by simp at nonzero; omega
    have up : (0 : Int) < Int.ofNat n := by simpa using some_
    refine ⟨fun bad => exec_docketAdjust free started ?_, fun enabled slots => ?_⟩
    · refine decideDocketAdjust_of_type_refused (s := s.heard) named range docket taking up ?_
      rw [s.heard.type_eq t.val t.isLt]
      exact bad
    have type_ : s.heard.type t.val = s.types[t] := s.heard.type_eq t.val t.isLt
    have decided := decideDocketAdjust_of_added (s := s.heard) named range docket taking up (type_ ▸ enabled) (type_ ▸ slots)
    have number : (Int.ofNat n).toNat = n := rfl
    rw [number] at decided
    have accepted {runs : List Run} (open_ : ¬ (d.needsRun key n = true ∧ d.hasRoom = false))
        (left : d.add key n = { d with runs := runs, accepted := d.accepted + n }) : added runs := by
      refine exec_docketAdjust free started (decided.trans ?_)
      rw [if_neg open_, left]
      exact adjusted_eq (s := s.heard) docket _
    have room {h : d.runs.length + d.reserved < 48} : ¬ (d.needsRun key n = true ∧ d.hasRoom = false) := fun full => by
      have := of_decide_eq_false full.2
      exact this h
    refine ⟨fun rs x runs same fits => ?_, fun rs x runs same below more free_ => ?_, fun last free_ => ?_, fun last full => ?_⟩
    · exact accepted (by simp [Docket.needsRun_fits runs same fits]) (Docket.add_fits runs same some_ fits)
    · exact accepted (room (h := free_)) (Docket.add_splits runs same below more)
    · exact accepted (room (h := free_)) (Docket.add_begins some_ last)
    · refine exec_docketAdjust free started (decided.trans (if_pos ⟨Docket.needsRun_over last, ?_⟩))
      exact decide_eq_false (Nat.not_lt.2 full)
  · intro c q hit held
    have range : t.val < 24 ∧ bottles ≤ 40 ∧ -255 ≤ -(n : Int) ∧ -(n : Int) ≤ 255 ∧ -(n : Int) ≠ 0 :=
      ⟨t.isLt, bottles_, by omega, by omega, by omega⟩
    have decided := decideDocketAdjust_of_removed (s := s.heard) (Condition.ofCode_of_lt condition_) range docket taking
      (by omega)
    have number : (-(-(n : Int))).toNat = n := by omega
    rw [number] at decided
    refine ⟨fun short => exec_docketAdjust free started (decided.trans (if_pos short)), ?_⟩
    intro xs x ys runs_ stop before enough rest kept runs moved
    have lowered : (takeNewest hit n d.runs.reverse).reverse = xs ++ { x with count := rest } :: ys.map (Run.emptied hit) := by
      rw [runs_]
      exact takeNewest_stops stop before enough
    rw [runs_] at used
    have moves : retarget (takeNewest hit n d.runs.reverse).reverse = moved := by
      rw [lowered]
      exact funext fun k => retarget_removed used rest k
    have left : (xs ++ { x with count := rest } :: ys.map (Run.emptied hit)).filter (fun r => decide (0 < r.count)) = runs := by
      rw [List.filter_append, List.filter_cons, filter_used fun r hr => used r (by simp [hr]),
        filter_emptied fun r hr => used r (by simp [hr])]
      by_cases gone : rest = 0
      · simp [runs, kept, gone]
      · simp [runs, kept, gone, Nat.pos_of_ne_zero gone]
    have removed : d.remove (Run.isOf t.val (if condition = 0 then .good else .damaged) bottles) n = { d with
        runs := runs
        plan := d.plan.map fun e => { e with target := e.target.bind moved }
        reserved := d.reserved + (d.plan.filter fun e => (e.target.map fun k => (moved k).isNone) = some true).length
        accepted := d.accepted - n } := by
      have lost (e : PlanEntry) : (e.target.isSome && (e.target.bind moved).isNone)
          = decide ((e.target.map fun k => (moved k).isNone) = some true) := by
        cases e.target with
        | none => rfl
        | some k =>
          simp only [Option.isSome_some, Option.bind_some, Option.map_some, Bool.true_and, Option.some.injEq]
          exact Bool.decide_eq_true.symm
      show d.remove hit n = _
      simp only [Docket.remove, moves, lost]
      rw [lowered, left]
    refine exec_docketAdjust free started (decided.trans ?_)
    rw [if_neg, removed]
    · exact adjusted_eq (s := s.heard) docket _
    · have all : heldBy hit d.runs = heldBy hit xs + heldBy hit (x :: ys) := by
        rw [runs_, heldBy, List.filter_append, List.map_append, List.sum_append]
        rfl
      have more : heldBy hit (x :: ys) ≤ heldBy hit d.runs := by omega
      exact Nat.not_lt.2 (enough.trans more)

end Sys2Proof.Machine
end

section
/-! PROOF. The account window (chapter 6, section 6.4) and what a settlement changes (chapter 7, section 7.8). -/

namespace Sys2Proof.Machine

/-! ### The account window (R104, R105) -/

/-- What a window reply takes: the slots that are not EMPTY from its first to its cursor, whole records within the room, and
on the cursor, when the window is not at its end, a record that the room left is too small for. -/
structure WindowTaken (s : State) (last first room : Nat) (batch : Nat × List Nat) : Prop where
  from_first : first ≤ batch.1
  within : batch.1 ≤ last + 1
  slots : batch.2 = (List.range' first (batch.1 - first)).filter fun j => (s.account j).isSome
  fits : (batch.2.map fun j => (accountBytes j (s.account j)).length).sum ≤ room
  stops : batch.1 ≤ last → ∃ a, s.account batch.1 = some a
    ∧ room < (batch.2.map fun j => (accountBytes j (s.account j)).length).sum + (accountBytes batch.1 (some a)).length

/-- The slots from `first` on are the first and those after it. -/
theorem filter_range'_first {p : Nat → Bool} {first cursor : Nat} (h : first < cursor) :
    (List.range' first (cursor - first)).filter p
      = (if p first then [first] else []) ++ (List.range' (first + 1) (cursor - (first + 1))).filter p := by
  obtain ⟨n, rfl⟩ : ∃ n, cursor = first + 1 + n := ⟨cursor - (first + 1), by omega⟩
  rw [show first + 1 + n - first = n + 1 by omega, show first + 1 + n - (first + 1) = n by omega, List.range'_succ,
    List.filter_cons]
  split <;> rfl

theorem windowTaken_windowBatch (s : State) (last fuel first room : Nat) (reaches : last + 1 - first ≤ fuel)
    (within : first ≤ last + 1) : WindowTaken s last first room (windowBatch s last fuel first room) := by
  have ended {room : Nat} (past : last < first) : WindowTaken s last first room (first, []) :=
    ⟨Nat.le_refl _, within, by simp, Nat.zero_le _, fun h => absurd h (Nat.not_le.2 past)⟩
  induction fuel generalizing first room with
  | zero => exact ended (by omega)
  | succ fuel ih =>
    rw [windowBatch]
    by_cases inside : first ≤ last
    · rw [if_pos inside]
      have next (room : Nat) := ih (first + 1) room (by omega) (by omega) fun past =>
        ⟨Nat.le_refl _, by omega, by simp, Nat.zero_le _, fun h => absurd h (Nat.not_le.2 past)⟩
      cases held : s.account first with
      | none =>
        obtain ⟨low, high, slots, fits, stops⟩ := next room
        refine ⟨(Nat.le_succ _).trans low, high, ?_, fits, stops⟩
        rw [slots, filter_range'_first low, held]
        rfl
      | some a =>
        simp only
        by_cases room_ : (accountBytes first (some a)).length ≤ room
        · rw [if_pos room_]
          obtain ⟨low, high, slots, fits, stops⟩ := next (room - (accountBytes first (some a)).length)
          refine ⟨(Nat.le_succ _).trans low, high, ?_, ?_, fun more => ?_⟩
          · rw [filter_range'_first low, held, ← slots]
            rfl
          · simp only [List.map_cons, List.sum_cons, held]
            omega
          · obtain ⟨a', held', small⟩ := stops more
            refine ⟨a', held', ?_⟩
            simp only [List.map_cons, List.sum_cons, held]
            omega
        · rw [if_neg room_]
          exact ⟨Nat.le_refl _, within, by simp, Nat.zero_le _, fun _ => ⟨a, held, by simpa using room_⟩⟩
    · rw [if_neg inside]
      exact ended (Nat.not_le.1 inside)

section

variable {s t : State} {st : Status} {payload : List Byte}

theorem exec_acctRange {first last : Nat} (free : s.free) (started : s.part.state ≠ .starting)
    (decided : decideAcctRange first last s.heard = (t, ⟨st, payload⟩)) :
    exec (.acctRange first last) s = .next (t.answered (.acctRange first last) st payload).transmit :=
  exec_of_decided rfl free rfl (PartState.takes_of started nofun nofun nofun nofun) decided

theorem exec_acctNext (free : s.free) (started : s.part.state ≠ .starting)
    (decided : decideAcctNext s.heard = (t, ⟨st, payload⟩)) :
    exec .acctNext s = .next (t.answered .acctNext st payload).transmit :=
  exec_of_decided rfl free rfl (PartState.takes_of started nofun nofun nofun nofun) decided

end

/-- Settles O38: what each window reply takes is `WindowTaken`. -/
theorem accountWindowReplies : Obligations.AccountWindowReplies := by
  intro s free started batch
  have taken (w : Window) (last : w.last < 64) (cursor : w.cursor ≤ w.last + 1) :=
    windowTaken_windowBatch s.heard w.last 65 w.cursor Config.windowRoom (by omega) cursor
  have replied {c : Instr} {r : Request} {w : Window} (last : w.last < 64) (cursor : w.cursor ≤ w.last + 1)
      (decided : ∀ {t st payload}, windowReply w s.heard = (t, ⟨st, payload⟩) →
        exec c s = .next (t.answered r st payload).transmit) : batch c r w := by
    obtain ⟨low, high, slots, fits, stops⟩ := taken w last cursor
    refine ⟨_, low, high, ?_⟩
    rw [slots] at fits stops
    refine ⟨fits, stops, ?_⟩
    have run := decided rfl
    rw [slots] at run
    exact run
  refine ⟨fun first last bad => exec_acctRange free started (if_neg (by omega)), fun first last order last_ => ?_, fun none_ => ?_,
    fun w window last cursor => ?_⟩
  · refine replied (w := ⟨last, first, first⟩) last_ (by show first ≤ last + 1; omega) fun h => exec_acctRange free started ?_
    exact (if_pos ⟨order, last_⟩).trans h
  · refine exec_acctNext free started ?_
    rw [decideAcctNext, show s.heard.port.window = none from none_]
    rfl
  · refine replied last cursor fun h => exec_acctNext free started ?_
    rw [decideAcctNext, show s.heard.port.window = some w from window]
    exact h

/-! ### What a settlement changes (R114, R120 to R123) -/

/-- A type's outstanding count falls by what its lines matched. -/
theorem getElem_lowerOutstanding {t : Nat} (h : t < 24) (lines : List SettlementLine) (o : Vector Nat 24) :
    (lowerOutstanding o lines)[t] = o[t] - ((lines.filter (·.type = t)).map SettlementLine.matched).sum := by
  induction lines generalizing o with
  | nil => rfl
  | cons l ls ih =>
    rw [lowerOutstanding, List.foldl_cons, ← lowerOutstanding, ih, Vector.getElem_setIfInBounds h, List.filter_cons]
    by_cases here : l.type = t
    · rw [if_pos here, if_pos (decide_eq_true here), here, Vector.getElem?_eq_getElem h, Option.getD_some, List.map_cons,
        List.sum_cons, Nat.sub_sub]
    · rw [if_neg here, if_neg (by simpa using here)]

theorem Account.settle_eq (c : Computed) (a : Account) : Account.settle c a = { a with
    outstanding := Vector.ofFn fun t : Fin 24 => a.outstanding[t]
      - ((c.lines.filter fun l => l.type = t.val).map SettlementLine.matched).sum
    credit := min 99999999 (a.credit + c.posted)
    paidToday := a.paidToday + c.payout } := by
  have lowered : lowerOutstanding a.outstanding c.lines = Vector.ofFn fun t : Fin 24 => a.outstanding[t]
      - ((c.lines.filter fun l => l.type = t.val).map SettlementLine.matched).sum := by
    ext t h
    rw [getElem_lowerOutstanding h, Vector.getElem_ofFn]
    rfl
  rw [Account.settle, lowered, bounded, Nat.min_comm]
  rfl

/-- The lane its docket leaves, with SETTLED set (R64, R90). -/
theorem Lane.settled_eq (d : Docket) (l : Lane) :
    { Lane.afterSettlement d l with flags := { (Lane.afterSettlement d l).flags with settled := true } } = { l with
      docket := none
      lastSettled := some d.number
      flags := { l.flags with settled := true }
      state := if l.state = .held then .held else .off
      quietTimer := if l.state = .held then l.quietTimer else none
      autoCloseTimer := if l.state = .held then l.autoCloseTimer else none
      jamA := if l.state = .held then l.jamA else none
      jamB := if l.state = .held then l.jamB else none
      diverter := { l.diverter with step := if l.state = .held then l.diverter.step else none } } := by
  rw [Lane.afterSettlement]
  by_cases held : l.state = .held
  · simp only [held, if_true]
  · simp only [held, if_false]
    rfl

theorem pushCapped_settlements (rs : List Settlement) (r : Settlement) :
    pushCapped Config.settlementsMax rs r = (rs ++ [r]).drop (rs.length + 1 - 16) := by
  rw [pushCapped, List.length_append, List.length_singleton, Config.settlementsMax]

section

variable {s : State} {i : LaneId} {d : Docket} {a : Account}

theorem State.computed_of_held (h : d.account < 64) (held : s.accounts[d.account] = some a) :
    s.computed d = computeSettlement s.types s.settings.cashUnit a d.method d.runs := by
  rw [State.computed, s.account_eq h, held, Option.getD_some]

/-- A settlement that makes no order changes the account and stores the record (R112). -/
theorem State.settleAccount_none (h : d.account < 64) (held : s.accounts[d.account] = some a)
    (none_ : (s.computed d).order? = none) :
    s.settleAccount i d = { s with
      accounts := s.accounts.set d.account (some (a.settle (s.computed d))) h
      settlements := (s.settlements ++ [settlementRecord i d a (s.computed d) none]).drop (s.settlements.length + 1 - 16) } := by
  have slot : (s.account d.account).getD Account.blank = a := by rw [s.account_eq h, held, Option.getD_some]
  rw [State.settleAccount, none_, slot, State.modAccount_of_held h held]
  simp only [State.storeSettlement, pushCapped_settlements]

/-- A settlement that makes one appends it in between (R112, R121). -/
theorem State.settleAccount_some {m : PayMethod} {p : Nat} (h : d.account < 64) (held : s.accounts[d.account] = some a)
    (made : (s.computed d).order? = some (m, p)) :
    s.settleAccount i d = State.join .queue { s with
      accounts := s.accounts.set d.account (some (a.settle (s.computed d))) h
      queue := { s.queue with
        orders := s.queue.orders ++ [⟨s.orderNumber, d.account, some d.number, m, p, 0, .waiting, none, none, 0⟩]
        nextOrder := nextNumber s.orderNumber
        flags := { s.queue.flags with orderAdded := true } }
      settlements := (s.settlements ++ [settlementRecord i d a (s.computed d) (some s.orderNumber)]).drop
        (s.settlements.length + 1 - 16) } := by
  have slot : (s.account d.account).getD Account.blank = a := by rw [s.account_eq h, held, Option.getD_some]
  rw [State.settleAccount, made, slot, State.modAccount_of_held h held]
  simp only [State.storeSettlement, pushCapped_settlements]
  rfl

/-- The state of a settled docket's booking, with the docket out of its lane and SETTLED set (R64, R90). -/
def State.left (i : LaneId) (d : Docket) (s : State) : State :=
  ((s.settleAccount i d).modLane i (Lane.afterSettlement d)).raiseLane i fun f => { f with settled := true }

theorem State.settleDocket_none (docket : (s.lane i).docket = some d) (none_ : (s.computed d).order? = none) :
    s.settleDocket i = if d.method = .account then s.left i d else (s.left i d).dropCommitment := by
  rw [State.settleDocket, docket]
  simp only [none_, Option.isSome_none]
  by_cases account : d.method = .account
  · rw [if_neg (by simp), if_neg (by simp [account]), if_pos account]
    rfl
  · rw [if_neg (by simp), if_pos (by simp [account]), if_neg account]
    rfl

theorem State.settleDocket_some {o : PayMethod × Nat} (docket : (s.lane i).docket = some d)
    (made : (s.computed d).order? = some o) : s.settleDocket i = (s.left i d).arbitrate := by
  rw [State.settleDocket, docket]
  simp only [made, Option.isSome_some]
  rw [if_pos trivial, if_neg (by simp)]
  rfl

end

/-- Settles O41: what the settlement books, and then what its lane and its commitment do. -/
theorem settlementSettlesTheDocket : Obligations.SettlementSettlesTheDocket := by
  intro i s d a h docket held c settled record left
  have computed : s.computed d = c := State.computed_of_held h held
  have account : a.settle (s.computed d) = settled := by rw [computed]; exact Account.settle_eq c a
  have leaves (u : State) : (u.modLane i (Lane.afterSettlement d)).raiseLane i (fun f => { f with settled := true })
      = State.join (.lane i) (u.modLane i fun l =>
        { Lane.afterSettlement d l with flags := { (Lane.afterSettlement d l).flags with settled := true } }) :=
    congrArg (State.join (.lane i)) (State.modLane_twice rfl)
  simp only [Lane.settled_eq] at leaves
  have none_ (zero : c.payout = 0) : (s.computed d).order? = none := by
    rw [computed]
    exact if_neg (by omega)
  have booked (zero : c.payout = 0) : s.settleAccount i d = { s with
      accounts := s.accounts.set d.account (some settled) h
      settlements := (s.settlements ++ [record none]).drop (s.settlements.length + 1 - 16) } := by
    rw [State.settleAccount_none h held (none_ zero), account, computed]
    rfl
  have gone (zero : c.payout = 0) : s.left i d = left none { s with accounts := s.accounts.set d.account (some settled) h } := by
    rw [State.left, booked zero]
    exact leaves _
  refine ⟨fun zero method => ?_, fun zero method => ?_, ?_⟩
  · rw [State.settleDocket_none docket (none_ zero), if_pos method, gone zero]
  · rw [State.settleDocket_none docket (none_ zero), if_neg method, gone zero]
  · intro pos m method n
    have made : (s.computed d).order? = some (m, c.payout) := by
      rw [computed, Computed.order?, if_pos pos]
      rcases method with ⟨applied, rfl⟩ | ⟨applied, rfl⟩ <;> rw [applied] <;> rfl
    rw [State.settleDocket_some docket made, State.left, State.settleAccount_some h held made, account, computed]
    exact congrArg State.arbitrate (leaves _)

end Sys2Proof.Machine
end

section
/-! PROOF. What the read requests answer: the bytes of the records and replies (R172 to R174), and the requests that change
nothing. -/

namespace Sys2Proof.Machine

/-! ### Bytes (R172) -/

theorem flagByte_eq (b : Bool) : flagByte b = byteOf b.toNat := by cases b <;> rfl

theorem bitsByte_five (a b c d e : Bool) : bitsByte [a, b, c, d, e]
    = a.toNat + 2 * b.toNat + 4 * c.toNat + 8 * d.toNat + 16 * e.toNat := by
  simp only [bitsByte_cons, bitsByte_nil]; omega

theorem bitsByte_eight (a b c d e f g h : Bool) : bitsByte [a, b, c, d, e, f, g, h]
    = a.toNat + 2 * b.toNat + 4 * c.toNat + 8 * d.toNat + 16 * e.toNat + 32 * f.toNat + 64 * g.toNat + 128 * h.toNat := by
  simp only [bitsByte_cons, bitsByte_nil]; omega

theorem append_eq {a b c d : List Byte} (first : a = b) (rest : c = d) : a ++ c = b ++ d := by rw [first, rest]

theorem mul_toNat_decide (n : Nat) (p : Prop) [Decidable p] : n * (decide p).toNat = if p then n else 0 := by
  by_cases h : p <;> simp [h]

/-! ### STATE (R169) -/

theorem State.bays_toList (s : State) : s.bays.toList = [s.bay 0, s.bay 1] := by
  refine List.ext_getElem (by simp) fun n _ h => ?_
  match n, h with
  | 0, _ => simp [State.bay]
  | 1, _ => simp [State.bay]

theorem stateBytes_eq (s : State) : stateBytes s = byteOf s.part.state.code :: le2 s.part.day ++ [byteOf (s.lane 0).state.code,
    byteOf (s.lane 1).state.code, byteOf (s.lane 2).state.code, byteOf (s.lane 3).state.code, byteOf (s.bay 0).state.code,
    byteOf (s.bay 1).state.code, byteOf s.queue.orders.length, byteOf s.queue.pressure.code] := by
  rw [stateBytes, s.lanes_toList, s.bays_toList]
  rfl

/-! ### The account record (R98, R173) -/

theorem outstandingPairs_eq (o : Vector Nat 24) :
    outstandingPairs o = ((List.finRange 24).filter fun t => o[t] ≠ 0).map fun t => (t.val, o[t]) := by
  have counted : o.toList.zipIdx = (List.finRange 24).map fun t => (o[t], t.val) := by
    refine List.ext_getElem (by simp) fun n _ h => ?_
    simp
  rw [outstandingPairs, counted, List.filter_map, List.map_map]
  rfl

theorem accountBytes_none (index : Nat) : accountBytes index none = byteOf index :: List.replicate 19 0 := by
  simp only [accountBytes, accountRecord, encodeAccount, le4, Nat.zero_div, bitsByte_nil, bitsByte_cons]
  rfl

theorem accountBytes_some (index : Nat) (a : Account) :
    accountBytes index (some a) = [byteOf index, if a.suspended then 2 else 1, byteOf (a.cash.toNat + 2 * a.voucher.toNat)]
      ++ le4 a.number ++ le4 a.dayCap ++ le4 a.paidToday ++ le4 a.credit
      ++ [byteOf ((List.finRange 24).filter fun t => a.outstanding[t] ≠ 0).length]
      ++ ((List.finRange 24).filter fun t => a.outstanding[t] ≠ 0).flatMap fun t => byteOf t.val :: le2 a.outstanding[t] := by
  have state : byteOf (if a.suspended then 2 else 1) = if a.suspended then 2 else 1 := by cases a.suspended <;> rfl
  simp only [accountBytes, accountRecord, encodeAccount, encodePairs, outstandingPairs_eq, state, bitsByte_two, List.length_map,
    List.flatMap_map, List.cons_append, List.nil_append, List.append_assoc]

/-! ### Records in flight (R69) -/

/-- The byte of an unsteady reason, where there is one (R69). -/
def unsteadyBytes : Option UnsteadyReason → List Byte
  | some .speed => [0]
  | some .unsteady => [1]
  | none => []

theorem passageBytes_eq : passageBytes = fun p => le2 p.seq ++ le4 p.tAOn.toNat
    ++ [byteOf (p.tAOff.isSome.toNat + 2 * p.tBOn.isSome.toNat + 4 * p.tBOff.isSome.toNat + 8 * p.gateArrival.isSome.toNat
      + 16 * p.gateClear.isSome.toNat + 32 * p.length.isSome.toNat + 64 * p.tag.isSome.toNat + 128 * p.unsteady.isSome.toNat)]
    ++ optBytes tickBytes p.tAOff ++ optBytes tickBytes p.tBOn ++ optBytes tickBytes p.tBOff
    ++ optBytes tickBytes p.gateArrival ++ optBytes tickBytes p.gateClear
    ++ optBytes (fun n => le2 n ++ le3 (p.speed.getD 0)) p.length
    ++ optBytes (fun g => byteOf g.owner :: le2 g.code) p.tag
    ++ [byteOf p.necks, byteOf p.damaged.toNat] ++ unsteadyBytes p.unsteady := by
  funext p
  have reason : ∀ u : Option UnsteadyReason, optBytes (fun u => [byteOf u.code]) u = unsteadyBytes u
    | some .speed => rfl
    | some .unsteady => rfl
    | none => rfl
  simp only [passageBytes, reason, presence, bitsByte_eight, tickBytes, flagByte_eq, b1, List.cons_append, List.nil_append,
    List.append_assoc]

/-- The bytes of a disposition and its refuse reason (R69). -/
def dispositionBytes : Option Disposition → List Byte
  | some (.accept _ _ _) => [0, 0]
  | some (.refuse r) => [1, 1, byteOf r.code]
  | none => [0]

theorem travelBytes_eq : travelBytes = fun p =>
    passageBytes p ++ (dispositionBytes p.disposition ++ [byteOf p.committed.toNat]) := by
  funext p
  have disposed : ∀ d : Option Disposition, optBytes (fun d => b1 d.side.code) d
      ++ (presence [(d.bind Disposition.reason?).isSome] ++ optBytes (fun r => b1 r.code) (d.bind Disposition.reason?))
      = dispositionBytes d
    | none => rfl
    | some (.accept _ _ _) => rfl
    | some (.refuse _) => rfl
  simp only [travelBytes, flagByte_eq, ← disposed, List.append_assoc]

/-- The byte of the side a disposition sends a record to (R38, R69). -/
def sideByte : Disposition → Byte
  | .accept _ _ _ => 0
  | .refuse _ => 1

theorem targetOf_eq (travel : List Passage) :
    targetOf travel = ((travel.filter fun p => !p.committed).head?.bind Passage.disposition).map Disposition.side := by
  rw [targetOf, List.head?_filter]
  cases travel.find? fun p => !p.committed <;> rfl

/-- LANE_READ's reply (R69). -/
theorem laneBytes_eq (t : Tick) (g : LaneSettings) (l : Lane) :
    let target := ((l.travel.filter fun p => !p.committed).head?.bind Passage.disposition).map sideByte
    laneBytes t g l = le4 t.toNat ++ [byteOf l.state.code,
        byteOf (l.holds.crowded.toNat + 2 * l.holds.strayAtB.toNat + 4 * l.holds.jam.toNat + 8 * l.holds.lateDivert.toNat
          + 16 * l.holds.diverterHome.toNat + 32 * l.holds.requested.toNat + 64 * l.holds.cancelled.toNat),
        byteOf g.enable.toNat, byteOf (3 * l.docket.isSome.toNat + 4 * target.isSome.toNat)]
      ++ optBytes (fun d => le2 d.number ++ [byteOf d.state.code]) l.docket
      ++ [BitVec.ofInt 8 g.trim, byteOf l.diverter.position, byteOf l.diverter.homed.toNat]
      ++ target.toList ++ [byteOf l.diverter.step.isSome.toNat, byteOf l.span.length] ++ l.span.flatMap passageBytes
      ++ [byteOf l.travel.length] ++ l.travel.flatMap travelBytes := by
  intro target
  have side : ∀ d : Option Disposition, optBytes (fun x : Side => [byteOf x.code]) (d.map Disposition.side)
      = (d.map sideByte).toList
    | none => rfl
    | some (.accept _ _ _) => rfl
    | some (.refuse _) => rfl
  have present (a b : Bool) : a.toNat + 2 * a.toNat + 4 * b.toNat = 3 * a.toNat + 4 * b.toNat := by omega
  simp only [laneBytes, targetOf_eq, side, target, presence, bitsByte_three, holdByte_eq, present, Option.isSome_map, tickBytes,
    flagByte_eq, signed1, b1, List.cons_append, List.nil_append, List.append_assoc]

/-! ### DOCKET_READ (R94) -/

/-- The bytes of a close cause (R94). -/
def closeCauseBytes : Option CloseCause → List Byte
  | none => [0]
  | some .request => [1, 0]
  | some .auto => [1, 1]

theorem docketBytes_eq (i : LaneId) (d : Docket) : docketBytes i d = le2 d.number
    ++ [byteOf i.val, byteOf d.account, byteOf d.method.code, byteOf d.state.code] ++ le2 d.openedDay
    ++ closeCauseBytes d.closeCause ++ le2 d.accepted ++ le2 d.refused ++ le2 d.misrouted ++ le2 d.voided
    ++ [byteOf d.runs.length, byteOf d.reserved, byteOf (d.plan.map PlanEntry.pending).sum]
    ++ d.runs.flatMap fun r => [byteOf r.key.type, byteOf (r.key.condition.code + 2 * r.key.source.code),
      byteOf r.key.bottles, byteOf r.count] := by
  have cause : ∀ c : Option CloseCause, presence [c.isSome] ++ optBytes (fun c => b1 c.code) c = closeCauseBytes c
    | none => rfl
    | some .request => rfl
    | some .auto => rfl
  have run : runBytes = fun r => [byteOf r.key.type, byteOf (r.key.condition.code + 2 * r.key.source.code), byteOf r.key.bottles,
    byteOf r.count] := rfl
  simp only [docketBytes, run, ← cause, b1, List.cons_append, List.nil_append, List.append_assoc]

/-! ### SETTLE_READ (R174) -/

theorem settlementLineBytes_eq : settlementLineBytes = fun l => le4 (l.subtotal % 2 ^ 27 + 2 ^ 27 * (l.type % 32)) ++ le2 l.good
    ++ le2 l.damaged ++ le3 l.bottles ++ le2 l.matched := rfl

theorem settlementBytes_eq (r : Settlement) (line : Nat) : settlementBytes r line = le2 r.docket
    ++ [byteOf (r.account % 64 + 64 * r.lane)] ++ le4 r.accountNumber
    ++ [byteOf (r.requested.code + 4 * r.applied.code + (if r.closeCause = .auto then 16 else 0) + 32 * r.order.isSome.toNat),
      byteOf (r.flags.saturated.toNat + 2 * r.flags.suspendedDowngrade.toNat + 4 * r.flags.methodDowngrade.toNat
        + 8 * r.flags.capLimited.toNat + 16 * r.flags.rounded.toNat + 32 * r.flags.creditSaturated.toNat)]
    ++ le2 r.day ++ le4 r.credit ++ le4 r.payout ++ le4 r.posted ++ optBytes le2 r.order
    ++ le2 r.refused ++ le2 r.misrouted ++ le2 r.voided ++ [byteOf r.lines.length, byteOf line]
    ++ ((r.lines.drop line).take 16).flatMap settlementLineBytes := by
  have cause : 16 * r.closeCause.code = if r.closeCause = .auto then 16 else 0 := by cases r.closeCause <;> rfl
  simp only [settlementBytes, settlementFlagsByte, cause, presence, bitsByte_six, b1, List.cons_append, List.nil_append,
    List.append_assoc]

/-! ### ORDER_LIST (R140, R173) -/

theorem orderBytes_eq : orderBytes = fun o => le2 o.number ++ [byteOf o.account, byteOf (o.state.code
      + (if o.method = .voucher then 4 else 0) + 8 * o.bay.isSome.toNat + (if o.bay = some 1 then 16 else 0)
      + 32 * o.docket.isSome.toNat + 64 * o.voucher.isSome.toNat)]
    ++ optBytes le2 o.docket ++ le4 o.amount ++ le4 o.paid ++ optBytes (fun v => le2 v.1 ++ le2 v.2) o.voucher
    ++ [byteOf o.attempts] := by
  funext o
  have bits : o.state.code + 4 * bitsByte [decide (o.method = .voucher), o.bay.isSome, decide (o.bay = some 1), o.docket.isSome,
      o.voucher.isSome] = o.state.code + (if o.method = .voucher then 4 else 0) + 8 * o.bay.isSome.toNat
      + (if o.bay = some 1 then 16 else 0) + 32 * o.docket.isSome.toNat + 64 * o.voucher.isSome.toNat := by
    rw [bitsByte_five, ← mul_toNat_decide, ← mul_toNat_decide]
    omega
  simp only [orderBytes, bits, b1, List.cons_append, List.nil_append, List.append_assoc]

theorem orderListBytes_eq (q : PayQueue) (list : List PayOrder) (first : Nat) : orderListBytes q list first =
    [byteOf q.commitments, byteOf q.pressure.code, byteOf list.length, byteOf first]
      ++ ((list.drop first).take 8).flatMap orderBytes := rfl

/-! ### BAY_READ (R157) -/

/-- The byte of a bay kind, where there is one (R157). -/
def kindBytes : Option BayKind → List Byte
  | some .cash => [1]
  | some .voucher => [2]
  | some .unsupported => [3]
  | none => []

theorem bayBytes_eq {orders : List PayOrder} {y : Bay} {order : Option PayOrder} (served : servedOrder orders y = order)
    (seq : Option Nat) :
    let cash := decide (y.kind = some .cash ∧ (y.state = .serving ∨ y.state = .stopping))
    bayBytes orders seq y = [byteOf y.state.code, byteOf y.enable.toNat,
        byteOf (y.kind.isSome.toNat + 2 * y.lastFault.isSome.toNat + 4 * order.isSome.toNat + 8 * cash.toNat
          + 16 * (y.service.unitTimer.isSome || y.service.print.isSome).toNat)]
      ++ kindBytes y.kind ++ [byteOf y.seat1.level.toNat, byteOf y.seat2.level.toNat]
      ++ optBytes faultBytes y.lastFault ++ optBytes servingBytes order
      ++ (if cash = true then le4 y.service.units else []) ++ outstandingBytes y.service
      ++ le2 y.stray ++ le2 (seq.getD 0) := by
  intro cash
  have units : reportsUnits y = cash := by simp [reportsUnits, cash]
  have kind : ∀ k : Option BayKind, optBytes (fun k => [byteOf k.code]) k = kindBytes k
    | some .cash => rfl
    | some .voucher => rfl
    | some .unsupported => rfl
    | none => rfl
  simp only [bayBytes, served, units, kind, presence, bitsByte_five, flagByte_eq, b1, List.cons_append, List.nil_append,
    List.append_assoc]

/-! ### Requests that change nothing -/

/-- A request that CLOSED and OPEN take, whose block answers it and leaves the state. -/
theorem exec_read {c : Instr} {r : Request} {s : State} {st : Status} {payload : List Byte} (free : s.free)
    (started : s.part.state ≠ .starting) (request : c.request? = some r) (good : Request.lengthGood r = true)
    (closed : PartState.takes .closed r = true) (opened : PartState.takes .opened r = true)
    (decided : decideRequest r s.heard = (s.heard, ⟨st, payload⟩)) :
    exec c s = .next (s.heard.answered r st payload).transmit := by
  refine exec_of_decided request free good ?_ decided
  cases state : s.part.state with
  | starting => exact absurd state started
  | closed => exact closed
  | opened => exact opened

theorem State.settlement_at {s : State} {xs ys : List Settlement} {r : Settlement} {n : Nat}
    (records : s.settlements = xs ++ r :: ys) (docket : r.docket = n) (newer : ∀ q ∈ ys, q.docket ≠ n) :
    s.settlement n = some r := by
  have reversed : (xs ++ r :: ys).reverse = ys.reverse ++ r :: xs.reverse := by simp
  rw [State.settlement, records, reversed]
  exact find?_at (fun q hq => by simpa using newer q (List.mem_reverse.1 hq)) (by simpa using docket)

theorem State.settlement_none {s : State} {n : Nat} (absent : ∀ r ∈ s.settlements, r.docket ≠ n) : s.settlement n = none :=
  List.find?_eq_none.2 fun r hr => by simpa using absent r (List.mem_reverse.1 hr)

/-- Settles O52: each read request answers the bytes of what it names. -/
theorem readingReports : Obligations.ReadingReports := by
  refine ⟨fun n => ⟨rfl, rfl, rfl, byteOf_toNat n⟩, rfl, rfl, rfl, rfl, rfl, rfl, rfl, rfl, fun _ => rfl, rfl, fun s free => ?_⟩
  intro answers
  have early (r : Request) (h : PartState.takes .starting r = true) (h' : PartState.takes .closed r = true)
      (h'' : PartState.takes .opened r = true) : s.part.state.takes r = true := by
    cases s.part.state with
    | starting => exact h
    | closed => exact h'
    | opened => exact h''
  refine ⟨exec_of_decided rfl free rfl (early _ rfl rfl rfl) ?ident, exec_of_decided rfl free rfl (early _ rfl rfl rfl) ?state,
    fun started => ?_⟩
  case ident => rfl
  case state => exact congrArg (answerOk s.heard) (stateBytes_eq s.heard)
  have reads {c : Instr} {r : Request} {st : Status} {payload : List Byte} (request : c.request? = some r)
      (good : Request.lengthGood r = true) (closed : PartState.takes .closed r = true)
      (opened : PartState.takes .opened r = true) (decided : decideRequest r s.heard = (s.heard, ⟨st, payload⟩)) :
      answers c r st payload := exec_read free started request good closed opened decided
  refine ⟨reads rfl rfl rfl rfl rfl, fun index out => reads rfl rfl rfl rfl (if_neg (by omega)), fun index within empty => ?_,
    fun index a held => ?_, fun lane out => ⟨reads rfl rfl rfl rfl ?_, reads rfl rfl rfl rfl ?_⟩, fun i => ?_,
    fun n line bad => reads rfl rfl rfl rfl (if_pos (by omega)), fun n line named line_ => ⟨fun absent => ?_, ?_⟩,
    fun list first bad => reads rfl rfl rfl rfl ?_, fun list first list_ first_ => ?_, fun bay out => reads rfl rfl rfl rfl ?_,
    fun b order serves => ?_⟩
  · refine reads rfl rfl rfl rfl ((if_pos within).trans (congrArg (answerOk s.heard) ?_))
    rw [show s.heard.account index = none from empty, accountBytes_none]
  · have within : index < 64 := by
      by_contra out
      rw [State.account, Vector.getElem?_eq_none (Nat.not_lt.1 out)] at held
      cases held
    refine reads rfl rfl rfl rfl ((if_pos within).trans (congrArg (answerOk s.heard) ?_))
    rw [show s.heard.account index = some a from held, accountBytes_some]
  · show decideDocketRead lane s.heard = _
    rw [decideDocketRead, laneOf_none out]
    rfl
  · show decideLaneRead lane s.heard = _
    rw [decideLaneRead, laneOf_none out]
    rfl
  · intro l tick passage disposed target
    have tick_ (x : Option Tick) : optBytes tickBytes x = tick x := by cases x <;> rfl
    have passage_ : passageBytes = passage := by
      rw [passageBytes_eq]
      funext p
      refine append_eq (append_eq (append_eq (append_eq (append_eq (append_eq (append_eq (append_eq (append_eq rfl
        (tick_ _)) (tick_ _)) (tick_ _)) (tick_ _)) (tick_ _)) ?length) ?tag) rfl) ?unsteady
      case length => cases p.length <;> rfl
      case tag => cases p.tag <;> rfl
      case unsteady => rcases p.unsteady with _ | _ | _ <;> rfl
    have travel_ : travelBytes = fun p => passage p ++ disposed p := by
      rw [travelBytes_eq, passage_]
      funext p
      refine append_eq rfl (append_eq ?_ rfl)
      rcases p.disposition with _ | ⟨_, _, _⟩ | _ <;> rfl
    have target_ : ((l.travel.filter fun p => !p.committed).head?.bind Passage.disposition).map sideByte = target :=
      congrArg (Option.map · _) (funext fun d => by cases d <;> rfl)
    refine ⟨reads rfl rfl rfl rfl ?_, fun empty => reads rfl rfl rfl rfl ?_, fun d held => reads rfl rfl rfl rfl ?_⟩
    · show decideLaneRead i.val s.heard = _
      rw [decideLaneRead, laneOf_val]
      refine congrArg (answerOk s.heard) ((laneBytes_eq s.tick s.settings.lanes[i] l).trans ?_)
      rw [target_, passage_, travel_]
      refine append_eq (append_eq (append_eq (append_eq (append_eq (append_eq (append_eq rfl ?_) rfl) rfl) rfl) rfl) rfl) rfl
      cases l.docket <;> rfl
    · show decideDocketRead i.val s.heard = _
      rw [decideDocketRead, laneOf_val]
      simp only
      rw [show (s.heard.lane i).docket = none from empty]
      rfl
    · show decideDocketRead i.val s.heard = _
      rw [decideDocketRead, laneOf_val]
      simp only
      rw [show (s.heard.lane i).docket = some d from held]
      simp only
      refine congrArg (answerOk s.heard) ((docketBytes_eq i d).trans ?_)
      refine append_eq (append_eq (append_eq (append_eq (append_eq (append_eq (append_eq rfl ?cause) rfl) rfl) rfl) rfl) rfl) rfl
      case cause => rcases d.closeCause with _ | _ | _ <;> rfl
  · refine reads rfl rfl rfl rfl ((if_neg (by omega)).trans ?_)
    rw [State.settlement_none (s := s.heard) absent]
    rfl
  · intro xs r ys records docket newer
    refine reads rfl rfl rfl rfl ((if_neg (by omega)).trans ?_)
    rw [State.settlement_at (s := s.heard) records docket newer]
    simp only
    refine congrArg (answerOk s.heard) ((settlementBytes_eq r line).trans ?_)
    rw [settlementLineBytes_eq]
    refine append_eq (append_eq (append_eq (append_eq (append_eq (append_eq rfl ?_) rfl) rfl) rfl) rfl) rfl
    cases r.order <;> rfl
  · show decideOrderList list first s.heard = _
    by_cases past : first > 15
    · exact if_pos past
    · obtain ⟨n, rfl⟩ : ∃ n, list = n + 2 := ⟨list - 2, by omega⟩
      exact if_neg past
  · have within : ¬ first > 15 := by omega
    have record (o : PayOrder) := congrFun orderBytes_eq o
    intro orders
    have decided : decideOrderList list first s.heard = answerOk s.heard (orderListBytes s.queue orders first) := by
      obtain rfl | rfl : list = 0 ∨ list = 1 := by omega
      · exact if_neg within
      · exact if_neg within
    refine reads rfl rfl rfl rfl (decided.trans (congrArg (answerOk s.heard) ?_))
    rw [orderListBytes_eq]
    refine append_eq rfl (congrArg (List.flatMap · _) (funext fun o => (record o).trans ?_))
    refine append_eq (append_eq (append_eq (append_eq (append_eq (append_eq rfl ?state) ?docket) rfl) rfl) ?voucher) rfl
    case state => cases o.state <;> rfl
    case docket => cases o.docket <;> rfl
    case voucher => cases o.voucher <;> rfl
  · show decideBayRead bay s.heard = _
    rw [decideBayRead, bayOf_none out]
    rfl
  · refine reads rfl rfl rfl rfl ?_
    show decideBayRead b.val s.heard = _
    rw [decideBayRead, bayOf_val]
    refine congrArg (answerOk s.heard) ((bayBytes_eq (servedOrder_of_serves serves) s.part.voucherSeq).trans ?_)
    refine append_eq (append_eq (append_eq (append_eq (append_eq (append_eq (append_eq (append_eq rfl ?kind) rfl) ?fault) ?order)
      rfl) ?outstanding) rfl) rfl
    case kind => rcases (s.bay b).kind with _ | _ | _ | _ <;> rfl
    case fault =>
      cases (s.bay b).lastFault with
      | none => rfl
      | some c => cases c <;> rfl
    case order => cases order <;> rfl
    case outstanding =>
      rw [outstandingBytes]
      cases (s.bay b).service.unitTimer with
      | some _ => rfl
      | none => cases (s.bay b).service.print <;> rfl

end Sys2Proof.Machine
end
